-- ==== Sys2Proof/Word.lean ====
section
/-! DEFINITION. The word types of the sub007 CORE (00_scope.md R8, R10). -/

namespace Sys2Proof

/-- The 32-bit pattern a register, an operand word or a result holds (R8, R21): no inherent signedness. -/
abbrev Word := BitVec 32

/-- The 8-bit unit of memory (R8, R50). -/
abbrev Byte := BitVec 8

/-- A register number, 0 to 7 the data registers `D0` to `D7`, 8 to 15 the address registers `A0` to `A7` (R22). -/
abbrev RegNum := Fin 16

end Sys2Proof
end

