-- ==== Sys2Proof/Syntax.lean ====
section
/-! DEFINITION. The commands of the sub007 CORE as syntax: one constructor of `Instr` for each of the forty rows of
spec/opcode_table.json, and the names its operands, conditions, flags and fault causes go by. -/

namespace Sys2Proof

/-- The stored or transferred command: the control word and the three operand words (30_encoding.md R75). -/
structure Record where
  cw : Word
  op1 : Word
  op2 : Word
  op3 : Word
deriving DecidableEq, Repr

/-- Where an operand comes from: the operand word itself, or the register it numbers (R76). The register number is the
whole 32-bit operand word, since a number above 15 is a legal control word that raises `BAD_REGISTER` (R82 check 4). -/
inductive Src where
  | imm (value : Word)
  | reg (number : Word)
deriving DecidableEq, Repr

/-- The five condition flags by name (10_state.md R28, R34). -/
inductive Flag where
  | c | v | z | n | x
deriving DecidableEq, Repr

/-- The sixteen conditions of the decrement-and-branch family (43_decrement_branch.md R172). -/
inductive Cond where
  | t | ra | hi | ls | cc | cs | ne | eq | vc | vs | pl | mi | ge | lt | gt | le
deriving DecidableEq, Repr

/-- The six shift and rotate operations (41_shift_rotate.md). -/
inductive ShiftKind where
  | asr | asl | lsr | lsl | ror | rol
deriving DecidableEq, Repr

/-- The two logical operations (42_logical_memory.md). -/
inductive LogicKind where
  | and | or
deriving DecidableEq, Repr

/-- The causes of `IllegalCommand` (60_exceptions.md R233). -/
inductive Cause where
  | illegalOpcode | illegalSize | illegalField | badRegister | badBuffer
deriving DecidableEq, Repr

/-- The commands. `rd` is the write-back destination, `none` when `WB` = 0 (R77). A `db<cc>` names its counter by the
four bits of `RD` and carries the displacement word, which only the reference sequencer reads (R78, R81). A memory
command carries its buffer number, a `flgget` or `flgset` its flag number, each a whole operand word (R81). -/
inductive Instr where
  | rmov (src : Src) (rd : Option RegNum)
  | radd (a b : Src) (rd : Option RegNum)
  | flgget (flag : Word) (rd : Option RegNum)
  | flgset (flag : Word) (src : Src)
  | dbt (counter : RegNum) (disp : Word)
  | dbra (counter : RegNum) (disp : Word)
  | dbhi (counter : RegNum) (disp : Word)
  | dbls (counter : RegNum) (disp : Word)
  | dbcc (counter : RegNum) (disp : Word)
  | dbcs (counter : RegNum) (disp : Word)
  | dbne (counter : RegNum) (disp : Word)
  | dbeq (counter : RegNum) (disp : Word)
  | dbvc (counter : RegNum) (disp : Word)
  | dbvs (counter : RegNum) (disp : Word)
  | dbpl (counter : RegNum) (disp : Word)
  | dbmi (counter : RegNum) (disp : Word)
  | dbge (counter : RegNum) (disp : Word)
  | dblt (counter : RegNum) (disp : Word)
  | dbgt (counter : RegNum) (disp : Word)
  | dble (counter : RegNum) (disp : Word)
  | orB (offset value : Src) (buffer : Word) (rd : Option RegNum)
  | orW (offset value : Src) (buffer : Word) (rd : Option RegNum)
  | orL (offset value : Src) (buffer : Word) (rd : Option RegNum)
  | andB (offset value : Src) (buffer : Word) (rd : Option RegNum)
  | andW (offset value : Src) (buffer : Word) (rd : Option RegNum)
  | andL (offset value : Src) (buffer : Word) (rd : Option RegNum)
  | offs (stride x y : Src) (rd : Option RegNum)
  | offsHdr (stride x y : Src) (rd : Option RegNum)
  | asrW (value count : Src) (rd : Option RegNum)
  | asrL (value count : Src) (rd : Option RegNum)
  | aslW (value count : Src) (rd : Option RegNum)
  | aslL (value count : Src) (rd : Option RegNum)
  | lsrW (value count : Src) (rd : Option RegNum)
  | lsrL (value count : Src) (rd : Option RegNum)
  | lslW (value count : Src) (rd : Option RegNum)
  | lslL (value count : Src) (rd : Option RegNum)
  | rorW (value count : Src) (rd : Option RegNum)
  | rorL (value count : Src) (rd : Option RegNum)
  | rolW (value count : Src) (rd : Option RegNum)
  | rolL (value count : Src) (rd : Option RegNum)
deriving DecidableEq, Repr

end Sys2Proof
end

