-- ==== Sys2Proof/WellFormed.lean ====
section
/-! DEFINITION. Which instructions are well-formed: those whose register and flag names exist, that is those that pass
check 4 of 30_encoding.md R82. (Checks 1 to 3 hold of every term of `Instr`; check 5 needs `NBUF`, so it is made when
the command is executed.) -/

namespace Sys2Proof

/-- A register-sourced operand names one of the sixteen registers (R76). -/
def Src.wellFormed : Src → Bool
  | .imm _ => true
  | .reg n => decide (n.toNat ≤ 15)

/-- A flag number names one of the five flags (40_register_access.md R104). -/
def flagNumberWellFormed (flag : Word) : Bool := decide (flag.toNat ≤ 4)

/-- A counter is a data register (43_decrement_branch.md R171). -/
def counterWellFormed (counter : RegNum) : Bool := decide (counter.val ≤ 7)

/-- Check 4 of R82. -/
def Instr.wellFormed : Instr → Bool
  | .rmov src _ => src.wellFormed
  | .radd a b _ => a.wellFormed && b.wellFormed
  | .flgget flag _ => flagNumberWellFormed flag
  | .flgset flag src => flagNumberWellFormed flag && src.wellFormed
  | .dbt k _ | .dbra k _ | .dbhi k _ | .dbls k _ | .dbcc k _ | .dbcs k _ | .dbne k _ | .dbeq k _
  | .dbvc k _ | .dbvs k _ | .dbpl k _ | .dbmi k _ | .dbge k _ | .dblt k _ | .dbgt k _ | .dble k _ =>
    counterWellFormed k
  | .orB off v _ _ | .orW off v _ _ | .orL off v _ _
  | .andB off v _ _ | .andW off v _ _ | .andL off v _ _ => off.wellFormed && v.wellFormed
  | .offs s x y _ | .offsHdr s x y _ => s.wellFormed && x.wellFormed && y.wellFormed
  | .asrW v k _ | .asrL v k _ | .aslW v k _ | .aslL v k _ | .lsrW v k _ | .lsrL v k _
  | .lslW v k _ | .lslL v k _ | .rorW v k _ | .rorL v k _ | .rolW v k _ | .rolL v k _ =>
    v.wellFormed && k.wellFormed

end Sys2Proof
end

