-- ==== Sys2Proof/Decode.lean ====
section
/-! DEFINITION. The decoder and the encoder of 30_encoding.md: big-endian words, the control word's fields (R75), the
opcode map (R80), the checks on the control word (R82 checks 1 to 3), the stored form (R85), and the
pseudo-instructions (R87). -/

namespace Sys2Proof

/-! ## Byte order (20_memory.md R53 to R55, 30_encoding.md R85) -/

/-- The number whose most significant byte is the first of the list (R53). -/
def ofBytesBE (bytes : List Byte) : Word := bytes.foldl (fun acc b => (acc <<< 8) ||| b.setWidth 32) 0

/-- The `n` low bytes of a word, most significant first (R54: byte `i` is `v[8(n-i)-1 : 8(n-1-i)]`). -/
def toBytesBE (n : Nat) (v : Word) : List Byte := (List.range n).map fun i => v.extractLsb' (8 * (n - 1 - i)) 8

/-- The sixteen bytes of a stored record: the four words in order, each most significant byte first (R85). -/
def Record.toBytes (r : Record) : List Byte :=
  toBytesBE 4 r.cw ++ toBytesBE 4 r.op1 ++ toBytesBE 4 r.op2 ++ toBytesBE 4 r.op3

/-- The record at the front of a byte list, with the bytes after it (R85); none if fewer than sixteen are left. -/
def Record.ofBytes (bytes : List Byte) : Option (Record × List Byte) :=
  if 16 ≤ bytes.length then
    some (⟨ofBytesBE (bytes.take 4), ofBytesBE ((bytes.drop 4).take 4), ofBytesBE ((bytes.drop 8).take 4),
      ofBytesBE ((bytes.drop 12).take 4)⟩, bytes.drop 16)
  else none

/-! ## The control word (R75) -/

/-- The fields of the control word (R75). -/
structure Control where
  op : BitVec 8
  sz : BitVec 2
  s1 : Bool
  s2 : Bool
  s3 : Bool
  wb : Bool
  rd : RegNum
  reserved : BitVec 14
deriving DecidableEq, Repr

/-- `OP` = bits 31:24, `SZ` = 23:22, `S1` = 21, `S2` = 20, `S3` = 19, `WB` = 18, `RD` = 17:14, reserved = 13:0 (R75). -/
def Control.ofWord (w : Word) : Control :=
  { op := w.extractLsb' 24 8, sz := w.extractLsb' 22 2, s1 := w.getLsbD 21, s2 := w.getLsbD 20, s3 := w.getLsbD 19
    wb := w.getLsbD 18, rd := ⟨(w.extractLsb' 14 4).toNat, (w.extractLsb' 14 4).isLt⟩, reserved := w.extractLsb' 0 14 }

/-- The control word with the given fields (R75). -/
def Control.toWord (c : Control) : Word :=
  c.op ++ c.sz ++ BitVec.ofBool c.s1 ++ BitVec.ofBool c.s2 ++ BitVec.ofBool c.s3 ++ BitVec.ofBool c.wb
    ++ BitVec.ofNat 4 c.rd.val ++ c.reserved

/-! ## The opcode map (R80) -/

/-- What an assigned opcode byte selects (R80): thirty values, the size field apart. -/
inductive Opcode where
  | rmov | radd | flgget | flgset
  | db (c : Cond)
  | logic (k : LogicKind)
  | offs | offsHdr
  | shift (k : ShiftKind)
deriving DecidableEq, Repr

/-- The opcode map (R80); every value not listed is unassigned. -/
def Opcode.ofByte (b : BitVec 8) : Option Opcode :=
  match b.toNat with
  | 0x10 => some .rmov
  | 0x12 => some .radd
  | 0x14 => some .flgget
  | 0x15 => some .flgset
  | 0x50 => some (.db .t)
  | 0x51 => some (.db .ra)
  | 0x52 => some (.db .hi)
  | 0x53 => some (.db .ls)
  | 0x54 => some (.db .cc)
  | 0x55 => some (.db .cs)
  | 0x56 => some (.db .ne)
  | 0x57 => some (.db .eq)
  | 0x58 => some (.db .vc)
  | 0x59 => some (.db .vs)
  | 0x5A => some (.db .pl)
  | 0x5B => some (.db .mi)
  | 0x5C => some (.db .ge)
  | 0x5D => some (.db .lt)
  | 0x5E => some (.db .gt)
  | 0x5F => some (.db .le)
  | 0x80 => some (.logic .or)
  | 0xA0 => some .offs
  | 0xA1 => some .offsHdr
  | 0xC0 => some (.logic .and)
  | 0xE0 => some (.shift .asr)
  | 0xE1 => some (.shift .asl)
  | 0xE2 => some (.shift .lsr)
  | 0xE3 => some (.shift .lsl)
  | 0xE6 => some (.shift .ror)
  | 0xE7 => some (.shift .rol)
  | _ => none

/-- The opcode byte of an assigned opcode (R80). -/
def Opcode.toByte : Opcode → BitVec 8
  | .rmov => 0x10
  | .radd => 0x12
  | .flgget => 0x14
  | .flgset => 0x15
  | .db .t => 0x50
  | .db .ra => 0x51
  | .db .hi => 0x52
  | .db .ls => 0x53
  | .db .cc => 0x54
  | .db .cs => 0x55
  | .db .ne => 0x56
  | .db .eq => 0x57
  | .db .vc => 0x58
  | .db .vs => 0x59
  | .db .pl => 0x5A
  | .db .mi => 0x5B
  | .db .ge => 0x5C
  | .db .lt => 0x5D
  | .db .gt => 0x5E
  | .db .le => 0x5F
  | .logic .or => 0x80
  | .offs => 0xA0
  | .offsHdr => 0xA1
  | .logic .and => 0xC0
  | .shift .asr => 0xE0
  | .shift .asl => 0xE1
  | .shift .lsr => 0xE2
  | .shift .lsl => 0xE3
  | .shift .ror => 0xE6
  | .shift .rol => 0xE7

/-- Check 2: the sizes an opcode has (R79): word and long for the shifts and rotates, byte, word and long for the
logical commands, `00` only for every other format. -/
def Opcode.sizeOk : Opcode → BitVec 2 → Bool
  | .shift _, sz => sz == 0b01#2 || sz == 0b10#2
  | .logic _, sz => sz != 0b11#2
  | _, sz => sz == 0b00#2

/-- Check 3: the reserved bits are 0, and so is every one of `S1`, `S2`, `S3`, `WB` that the format says is 0 (R78). -/
def Opcode.fieldsOk (o : Opcode) (c : Control) : Bool :=
  c.reserved == 0#14 &&
  match o with
  | .rmov => !c.s2 && !c.s3
  | .radd => !c.s3
  | .flgget => !c.s1 && !c.s2 && !c.s3
  | .flgset => !c.s1 && !c.s3 && !c.wb
  | .db _ => !c.s1 && !c.s2 && !c.s3 && !c.wb
  | .logic _ => !c.s3
  | .offs => true
  | .offsHdr => true
  | .shift _ => !c.s3

/-- The decrement-and-branch command of a condition (43_decrement_branch.md R174 to R189). -/
def Instr.ofCond : Cond → RegNum → Word → Instr
  | .t => .dbt
  | .ra => .dbra
  | .hi => .dbhi
  | .ls => .dbls
  | .cc => .dbcc
  | .cs => .dbcs
  | .ne => .dbne
  | .eq => .dbeq
  | .vc => .dbvc
  | .vs => .dbvs
  | .pl => .dbpl
  | .mi => .dbmi
  | .ge => .dbge
  | .lt => .dblt
  | .gt => .dbgt
  | .le => .dble

/-- The logical command of an operation and a size field: `00` byte, `01` word, `10` long (R79). -/
def Instr.ofLogic (k : LogicKind) (sz : BitVec 2) : Src → Src → Word → Option RegNum → Instr :=
  match k, sz.toNat with
  | .and, 0 => .andB
  | .and, 1 => .andW
  | .and, _ => .andL
  | .or, 0 => .orB
  | .or, 1 => .orW
  | .or, _ => .orL

/-- The shift or rotate of an operation and a size field: `01` word, `10` long (R79). -/
def Instr.ofShift (k : ShiftKind) (sz : BitVec 2) : Src → Src → Option RegNum → Instr :=
  match k, sz.toNat with
  | .asr, 1 => .asrW
  | .asr, _ => .asrL
  | .asl, 1 => .aslW
  | .asl, _ => .aslL
  | .lsr, 1 => .lsrW
  | .lsr, _ => .lsrL
  | .lsl, 1 => .lslW
  | .lsl, _ => .lslL
  | .ror, 1 => .rorW
  | .ror, _ => .rorL
  | .rol, 1 => .rolW
  | .rol, _ => .rolL

/-- The operand of a select bit and an operand word (R76). -/
def Src.select (fromRegister : Bool) (word : Word) : Src := if fromRegister then .reg word else .imm word

/-- The instruction of a record whose control word has passed checks 1 to 3, its operands in the places R78 gives them. -/
def Opcode.build (o : Opcode) (c : Control) (r : Record) : Instr :=
  let src1 := Src.select c.s1 r.op1
  let src2 := Src.select c.s2 r.op2
  let src3 := Src.select c.s3 r.op3
  let dest := if c.wb then some c.rd else none
  match o with
  | .rmov => .rmov src1 dest
  | .radd => .radd src1 src2 dest
  | .flgget => .flgget r.op1 dest
  | .flgset => .flgset r.op1 src2
  | .db k => Instr.ofCond k c.rd r.op1
  | .logic k => Instr.ofLogic k c.sz src1 src2 r.op3 dest
  | .offs => .offs src1 src2 src3 dest
  | .offsHdr => .offsHdr src1 src2 src3 dest
  | .shift k => Instr.ofShift k c.sz src1 src2 dest

/-- Decoding a record: checks 1, 2 and 3 of R82 in order, the first that fails giving the cause. Checks 4 and 5, which
look at the operand words and at `NBUF`, are made when the instruction is executed (notes/assumptions/10.md). -/
def decode (r : Record) : Except Cause Instr :=
  let c := Control.ofWord r.cw
  match Opcode.ofByte c.op with
  | none => .error .illegalOpcode
  | some o =>
    if !o.sizeOk c.sz then .error .illegalSize
    else if !o.fieldsOk c then .error .illegalField
    else .ok (o.build c r)

/-- Why a byte list gives no instruction: too short for a record, or a record that fails one of the checks. -/
inductive Reject where
  | truncated
  | illegal (c : Cause)
deriving DecidableEq, Repr

/-- Decoding the stored form (R85): total on any bytes, with the bytes after the record. -/
def decodeBytes (bytes : List Byte) : Except Reject (Instr × List Byte) :=
  match Record.ofBytes bytes with
  | none => .error .truncated
  | some (r, rest) =>
    match decode r with
    | .error c => .error (.illegal c)
    | .ok i => .ok (i, rest)

/-! ## The encoder -/

/-- The select bit of an operand (R76). -/
def Src.isReg : Src → Bool
  | .imm _ => false
  | .reg _ => true

/-- The operand word of an operand (R76). -/
def Src.word : Src → Word
  | .imm v => v
  | .reg n => n

/-- A record from an opcode, a size field, three operands and a destination; an absent destination is written as
`WB` = 0 with `RD` = 0 (R77). -/
def encodeWith (o : Opcode) (sz : BitVec 2) (a b c : Src) (rd : Option RegNum) : Record :=
  { cw := Control.toWord
      { op := o.toByte, sz := sz, s1 := a.isReg, s2 := b.isReg, s3 := c.isReg, wb := rd.isSome, rd := rd.getD 0
        reserved := 0 }
    op1 := a.word, op2 := b.word, op3 := c.word }

/-- A record of format B: `RD` names the counter and `WB` is 0 (R78). -/
def encodeDb (k : Cond) (counter : RegNum) (disp : Word) : Record :=
  { cw := Control.toWord
      { op := (Opcode.db k).toByte, sz := 0, s1 := false, s2 := false, s3 := false, wb := false, rd := counter
        reserved := 0 }
    op1 := disp, op2 := 0, op3 := 0 }

/-- The record of an instruction; operand words it does not use are 0 (R76, R78, R80). -/
def encode : Instr → Record
  | .rmov src rd => encodeWith .rmov 0b00 src (.imm 0) (.imm 0) rd
  | .radd a b rd => encodeWith .radd 0b00 a b (.imm 0) rd
  | .flgget flag rd => encodeWith .flgget 0b00 (.imm flag) (.imm 0) (.imm 0) rd
  | .flgset flag src => encodeWith .flgset 0b00 (.imm flag) src (.imm 0) none
  | .dbt k d => encodeDb .t k d
  | .dbra k d => encodeDb .ra k d
  | .dbhi k d => encodeDb .hi k d
  | .dbls k d => encodeDb .ls k d
  | .dbcc k d => encodeDb .cc k d
  | .dbcs k d => encodeDb .cs k d
  | .dbne k d => encodeDb .ne k d
  | .dbeq k d => encodeDb .eq k d
  | .dbvc k d => encodeDb .vc k d
  | .dbvs k d => encodeDb .vs k d
  | .dbpl k d => encodeDb .pl k d
  | .dbmi k d => encodeDb .mi k d
  | .dbge k d => encodeDb .ge k d
  | .dblt k d => encodeDb .lt k d
  | .dbgt k d => encodeDb .gt k d
  | .dble k d => encodeDb .le k d
  | .orB off v b rd => encodeWith (.logic .or) 0b00 off v (.imm b) rd
  | .orW off v b rd => encodeWith (.logic .or) 0b01 off v (.imm b) rd
  | .orL off v b rd => encodeWith (.logic .or) 0b10 off v (.imm b) rd
  | .andB off v b rd => encodeWith (.logic .and) 0b00 off v (.imm b) rd
  | .andW off v b rd => encodeWith (.logic .and) 0b01 off v (.imm b) rd
  | .andL off v b rd => encodeWith (.logic .and) 0b10 off v (.imm b) rd
  | .offs s x y rd => encodeWith .offs 0b00 s x y rd
  | .offsHdr s x y rd => encodeWith .offsHdr 0b00 s x y rd
  | .asrW v k rd => encodeWith (.shift .asr) 0b01 v k (.imm 0) rd
  | .asrL v k rd => encodeWith (.shift .asr) 0b10 v k (.imm 0) rd
  | .aslW v k rd => encodeWith (.shift .asl) 0b01 v k (.imm 0) rd
  | .aslL v k rd => encodeWith (.shift .asl) 0b10 v k (.imm 0) rd
  | .lsrW v k rd => encodeWith (.shift .lsr) 0b01 v k (.imm 0) rd
  | .lsrL v k rd => encodeWith (.shift .lsr) 0b10 v k (.imm 0) rd
  | .lslW v k rd => encodeWith (.shift .lsl) 0b01 v k (.imm 0) rd
  | .lslL v k rd => encodeWith (.shift .lsl) 0b10 v k (.imm 0) rd
  | .rorW v k rd => encodeWith (.shift .ror) 0b01 v k (.imm 0) rd
  | .rorL v k rd => encodeWith (.shift .ror) 0b10 v k (.imm 0) rd
  | .rolW v k rd => encodeWith (.shift .rol) 0b01 v k (.imm 0) rd
  | .rolL v k rd => encodeWith (.shift .rol) 0b10 v k (.imm 0) rd

/-- The mnemonic of an instruction, as spec/opcode_table.json and R86 spell it. -/
def Instr.mnemonic : Instr → String
  | .rmov _ _ => "rmov"
  | .radd _ _ _ => "radd"
  | .flgget _ _ => "flgget"
  | .flgset _ _ => "flgset"
  | .offs _ _ _ _ => "offs"
  | .offsHdr _ _ _ _ => "offs_hdr"
  | .dbt _ _ => "dbt"
  | .dbra _ _ => "dbra"
  | .dbhi _ _ => "dbhi"
  | .dbls _ _ => "dbls"
  | .dbcc _ _ => "dbcc"
  | .dbcs _ _ => "dbcs"
  | .dbne _ _ => "dbne"
  | .dbeq _ _ => "dbeq"
  | .dbvc _ _ => "dbvc"
  | .dbvs _ _ => "dbvs"
  | .dbpl _ _ => "dbpl"
  | .dbmi _ _ => "dbmi"
  | .dbge _ _ => "dbge"
  | .dblt _ _ => "dblt"
  | .dbgt _ _ => "dbgt"
  | .dble _ _ => "dble"
  | .orB _ _ _ _ => "or_b"
  | .orW _ _ _ _ => "or_w"
  | .orL _ _ _ _ => "or_l"
  | .andB _ _ _ _ => "and_b"
  | .andW _ _ _ _ => "and_w"
  | .andL _ _ _ _ => "and_l"
  | .asrW _ _ _ => "asr_w"
  | .asrL _ _ _ => "asr_l"
  | .aslW _ _ _ => "asl_w"
  | .aslL _ _ _ => "asl_l"
  | .lsrW _ _ _ => "lsr_w"
  | .lsrL _ _ _ => "lsr_l"
  | .lslW _ _ _ => "lsl_w"
  | .lslL _ _ _ => "lsl_l"
  | .rorW _ _ _ => "ror_w"
  | .rorL _ _ _ => "ror_l"
  | .rolW _ _ _ => "rol_w"
  | .rolL _ _ _ => "rol_l"

/-! ## Programs in bytes (45_host_sequencer.md R212) -/

/-- The bytes of a stored program: record `i` at bytes 16i to 16i + 15. -/
def programBytes (p : List Record) : List Byte := p.flatMap Record.toBytes

/-- The first `n` records of a byte array, none if it is too short. -/
def programOfBytes : Nat → List Byte → Option (List Record)
  | 0, _ => some []
  | n + 1, bytes =>
    match Record.ofBytes bytes with
    | none => none
    | some (r, rest) =>
      match programOfBytes n rest with
      | none => none
      | some rs => some (r :: rs)

/-! ## Pseudo-instructions (R87) -/

/-- `regrd <reg>`: read a register. -/
def Instr.regrd (r : RegNum) : Instr := .rmov (.reg (BitVec.ofNat 32 r.val)) none

/-- `regwr <reg>, <src>`: write a register. -/
def Instr.regwr (r : RegNum) (src : Src) : Instr := .rmov src (some r)

/-- `regadd <reg>, <src>`: add to a register. -/
def Instr.regadd (r : RegNum) (src : Src) : Instr := .radd (.reg (BitVec.ofNat 32 r.val)) src (some r)

/-- `dbf` is `dbra`. -/
def Instr.dbf : RegNum → Word → Instr := .dbra

/-- `dbhs` is `dbcc`. -/
def Instr.dbhs : RegNum → Word → Instr := .dbcc

/-- `dblo` is `dbcs`. -/
def Instr.dblo : RegNum → Word → Instr := .dbcs

/-- The operand word of an integer: reduced modulo 2^32 (R86, R102). -/
def immediate (v : Int) : Src := .imm (BitVec.ofInt 32 v)

/-! ## The opcode table's numbering -/

/-- The record whose bits are `w`, numbered as spec/opcode_table.json numbers them: bit 0 is the least significant bit of
the control word, and the operand words count on from it. The bits from `nbits` up are 0. -/
def Record.ofTableWord (nbits w : Nat) : Record :=
  let v := w % 2 ^ nbits
  ⟨BitVec.ofNat 32 v, BitVec.ofNat 32 (v / 2 ^ 32), BitVec.ofNat 32 (v / 2 ^ 64), BitVec.ofNat 32 (v / 2 ^ 96)⟩

/-- The instruction the decoder reads from the stored form of a table word. -/
def decodeTableWord (nbits w : Nat) : Option Instr :=
  match decodeBytes (Record.ofTableWord nbits w).toBytes with
  | .ok (i, _) => some i
  | .error _ => none

end Sys2Proof
end

