-- ==== Sys2Proof/Config.lean ====
section
/-! DEFINITION. The platform parameters to which the spec gives no default (00_scope.md R9): free values.
Neither has a body, so no proof can know which value a platform supplies. -/

namespace Sys2Proof

/-- `BUFLEN[b]` of the buffer the host has attached when the machine is reset: "none: the host supplies it", at least 0
and at most 2^31 - 1, which the type says (R9, R52). A free value (notes/assumptions/1.md, DESIGN CHOICE, safe). -/
opaque Config.bufLen : Nat → Fin (2 ^ 31)

/-- `HDR_ROWS`, the signed 32-bit header row offset of `offs_hdr`: "none: OPEN, the source gives no value" (R9, R202).
A free value (notes/assumptions/3.md, DESIGN CHOICE, safe). -/
opaque Config.hdrRows : Word

end Sys2Proof
end

