-- ==== Sys2Proof/Machine/Alu.lean ====
section
/-! DEFINITION. The data results of the commands, on vectors of the stated width (41_shift_rotate.md R140): shifts and
rotates, AND and OR, the wrapping addition of `radd`, the 16-bit decrement, the byte offset of the helpers. -/

namespace Sys2Proof.Machine

/-- The effective count `e = op2 mod W` (R122). -/
def effectiveCount (width : Nat) (count : Word) : Nat := count.toNat % width

/-- The W-bit result of a shift or rotate by the effective count `e` (R125 to R136; at `e` = 0 it is the value, R123). -/
def shiftResult {width : Nat} (k : ShiftKind) (v : BitVec width) (e : Nat) : BitVec width :=
  match k with
  | .asr => v.sshiftRight e
  | .asl => v <<< e
  | .lsr => v >>> e
  | .lsl => v <<< e
  | .ror => v.rotateRight e
  | .rol => v.rotateLeft e

/-- AND or OR of two W-bit values (42_logical_memory.md R152). -/
def logicResult {width : Nat} (k : LogicKind) (d m : BitVec width) : BitVec width :=
  match k with
  | .and => d &&& m
  | .or => d ||| m

/-- `(op1 + op2) mod 2^32` (40_register_access.md R103). -/
def addResult (a b : Word) : Word := a + b

/-- The counter after the decrement, `(c - 1) mod 2^16` (43_decrement_branch.md R173). -/
def decrementedCounter (c : BitVec 16) : BitVec 16 := c - 1

/-- The counter register with its low half replaced, bits 31 to 16 kept (R171). -/
def withLowHalf (old : Word) (low : BitVec 16) : Word := old.extractLsb' 16 16 ++ low

/-- `((y + header) * s + floor(x / 8)) mod 2^32`, every operand read as signed, the arithmetic in the integers, the
division toward minus infinity (44_addressing_helpers.md R200 to R202). -/
def byteOffset (header : Int) (stride x y : Word) : Word :=
  BitVec.ofInt 32 ((y.toInt + header) * stride.toInt + x.toInt.fdiv 8)

end Sys2Proof.Machine
end

