-- ==== Sys2Proof/Machine/Flags.lean ====
section
/-! DEFINITION. The five condition flags (10_state.md R28, R34), how each command class computes them (R29), and the
sixteen conditions over them (43_decrement_branch.md R172). -/

namespace Sys2Proof.Machine

/-- The flags `X N Z V C` (10_state.md R28). -/
structure Flags where
  x : Bool
  n : Bool
  z : Bool
  v : Bool
  c : Bool
deriving DecidableEq, Repr

/-- The `CCR` view, bit 4 = `X`, bit 3 = `N`, bit 2 = `Z`, bit 1 = `V`, bit 0 = `C` (R34). -/
def Flags.toCcr (f : Flags) : BitVec 5 :=
  BitVec.ofBool f.x ++ BitVec.ofBool f.n ++ BitVec.ofBool f.z ++ BitVec.ofBool f.v ++ BitVec.ofBool f.c

/-- The flags a 5-bit value packs (R34). -/
def Flags.ofCcr (b : BitVec 5) : Flags :=
  { x := b.getLsbD 4, n := b.getLsbD 3, z := b.getLsbD 2, v := b.getLsbD 1, c := b.getLsbD 0 }

/-- Reading one flag (R31, 40_register_access.md R104). -/
def Flags.get (f : Flags) : Flag → Bool
  | .c => f.c
  | .v => f.v
  | .z => f.z
  | .n => f.n
  | .x => f.x

/-- Writing one flag, the other four unchanged (R31, 40_register_access.md R105). -/
def Flags.set (f : Flags) (name : Flag) (b : Bool) : Flags :=
  match name with
  | .c => { f with c := b }
  | .v => { f with v := b }
  | .z => { f with z := b }
  | .n => { f with n := b }
  | .x => { f with x := b }

/-- The flag a flag number names: 0 = C, 1 = V, 2 = Z, 3 = N, 4 = X, no other (R34, 40_register_access.md R104). -/
def flagOfNumber (number : Word) : Option Flag :=
  match number.toNat with
  | 0 => some .c
  | 1 => some .v
  | 2 => some .z
  | 3 => some .n
  | 4 => some .x
  | _ => none

/-- Carry after a shift or rotate: the last bit out, 0 at effective count 0 (41_shift_rotate.md R123, R125 to R136). -/
def shiftCarry {width : Nat} (k : ShiftKind) (v : BitVec width) (e : Nat) : Bool :=
  if e = 0 then false
  else
    match k with
    | .asr | .lsr => v.getLsbD (e - 1)
    | .asl | .lsl => v.getLsbD (width - e)
    | .ror => (shiftResult .ror v e).getLsbD (width - 1)
    | .rol => (shiftResult .rol v e).getLsbD 0

/-- Overflow after a shift or rotate: for `asl`, 1 unless the top e + 1 bits of the value are all zeros or all ones
(their sign-extended field is 0 or all ones); for every other operation 0 (R124, R127, R128). -/
def shiftOverflow {width : Nat} (k : ShiftKind) (v : BitVec width) (e : Nat) : Bool :=
  match k with
  | .asl =>
    let top := v.sshiftRight (width - 1 - e)
    !(top == 0) && !(top == BitVec.allOnes width)
  | .asr | .lsr | .lsl | .ror | .rol => false

/-- Extend after a shift or rotate: as Carry for a shift by a non-zero effective count, otherwise unchanged (R124). -/
def shiftExtend {width : Nat} (k : ShiftKind) (v : BitVec width) (e : Nat) (old : Bool) : Bool :=
  match k with
  | .ror | .rol => old
  | .asr | .asl | .lsr | .lsl => if e = 0 then old else shiftCarry k v e

/-- The flags after a shift or rotate of the W-bit value `v` by the effective count `e` (R123, R124). -/
def Flags.afterShift {width : Nat} (old : Flags) (k : ShiftKind) (v : BitVec width) (e : Nat) : Flags :=
  { x := shiftExtend k v e old.x
    n := (shiftResult k v e).msb
    z := shiftResult k v e == 0
    v := shiftOverflow k v e
    c := shiftCarry k v e }

/-- The flags after a performed `and` or `or` with the W-bit result `r` (42_logical_memory.md R153). -/
def Flags.afterLogic {width : Nat} (old : Flags) (r : BitVec width) : Flags :=
  { old with n := r.msb, z := r == 0, v := false, c := false }

/-- The condition of a decrement-and-branch command; true terminates the loop (R172). -/
def condHolds (k : Cond) (f : Flags) : Bool :=
  match k with
  | .t => true
  | .ra => false
  | .hi => !f.c && !f.z
  | .ls => f.c || f.z
  | .cc => !f.c
  | .cs => f.c
  | .ne => !f.z
  | .eq => f.z
  | .vc => !f.v
  | .vs => f.v
  | .pl => !f.n
  | .mi => f.n
  | .ge => f.n == f.v
  | .lt => f.n != f.v
  | .gt => !f.z && (f.n == f.v)
  | .le => f.z || (f.n != f.v)

end Sys2Proof.Machine
end

