-- ==== Sys2Proof/Machine/Parameters.lean ====
section
/-! DEFINITION. The platform parameters for which the spec states a default (00_scope.md R9): `NBUF`, `EDGE_RULE`,
`FLAG_RESET`, each at that default. The parameters without a default are free values of Sys2Proof/Config.lean. -/

namespace Sys2Proof.Machine

/-- `NBUF` at its default: how many buffers are attached at reset (R9). -/
def defaultNbuf : Nat := 1

/-- `FLAG_RESET` at its default 00000 (R9, 10_state.md R32): the value of the parameter in `State.reset`
(notes/assumptions/5.md). -/
def defaultFlagReset : Flags := Flags.ofCcr 0b00000

/-- A number that a rule about a buffer's edge can compute: the offset, the width in bytes, the buffer's length, constants,
and sums, differences, products and remainders of these. -/
inductive EdgeTerm where
  | offset
  | width
  | length
  | const (value : Int)
  | add (a b : EdgeTerm)
  | sub (a b : EdgeTerm)
  | mul (a b : EdgeTerm)
  | mod (a b : EdgeTerm)
deriving DecidableEq, Repr

/-- The parameter `EDGE_RULE` as plain data (R9, 20_memory.md R60): which accesses that lie inside the buffer are skipped as
well. An access that does not lie inside is skipped under every rule, since 20_memory.md R53 and R54 give a read or
write of a byte that does not exist no meaning; inside, the terms give every predicate of offset, width and length
(notes/assumptions/4.md, DESIGN CHOICE). -/
inductive EdgeRule where
  /-- No access inside the buffer is skipped: the default (20_memory.md R57). -/
  | never
  /-- Those where the first number is less than the second. -/
  | less (a b : EdgeTerm)
  | not (r : EdgeRule)
  | and (r q : EdgeRule)
  | or (r q : EdgeRule)
deriving DecidableEq, Repr

/-- The value of a number for an access of `n` bytes at `off` of a buffer of `len` bytes. -/
def EdgeTerm.value (off : Int) (n len : Nat) : EdgeTerm → Int
  | .offset => off
  | .width => n
  | .length => len
  | .const v => v
  | .add a b => a.value off n len + b.value off n len
  | .sub a b => a.value off n len - b.value off n len
  | .mul a b => a.value off n len * b.value off n len
  | .mod a b => a.value off n len % b.value off n len

/-- Whether a rule skips an access inside the buffer. -/
def EdgeRule.skipsInside (off : Int) (n len : Nat) : EdgeRule → Bool
  | .never => false
  | .less a b => decide (a.value off n len < b.value off n len)
  | .not r => !r.skipsInside off n len
  | .and r q => r.skipsInside off n len && q.skipsInside off n len
  | .or r q => r.skipsInside off n len || q.skipsInside off n len

/-- The predicate `EDGE_RULE`: whether an access of `n` bytes at `off` of a buffer of `len` bytes is skipped. At the default it
is `off < 0` or `off + n > BUFLEN`, the sum in the integers (20_memory.md R57). -/
def EdgeRule.skips (r : EdgeRule) (off : Int) (n len : Nat) : Bool :=
  decide (off < 0) || decide ((len : Int) < off + n) || r.skipsInside off n len

/-- `EDGE_RULE` at its default (R9, 20_memory.md R57): the value of the parameter in `State.reset` (notes/assumptions/4.md). -/
def defaultEdgeRule : EdgeRule := .never

end Sys2Proof.Machine
end

