-- ==== Sys2Proof/Machine/State.lean ====
section
/-! DEFINITION. The state of the machine: the core's architectural state (10_state.md R40), the outputs of its ports that
reset gives a value (70_reset_and_hazards.md R260), the attached buffers (20_memory.md), the parameters `HDR_ROWS`,
`FLAG_RESET` and `EDGE_RULE`, and the reference sequencer's command index and program (45_host_sequencer.md R214). -/

namespace Sys2Proof.Machine

/-- Why the reference sequencer stops for good. No command of the core raises either: an illegal command is a next
state with `FAULT` = 1 (60_exceptions.md R232). -/
inductive Fault where
  /-- Raised by `step` when `FAULT` = 1: the run has failed, no further command is issued, only `RST` continues
  (45_host_sequencer.md R217, 60_exceptions.md R236, R237). It carries `FCODE`. Safe: the model stops where the sequencer does. -/
  | stoppedByFault (code : BitVec 3)
  /-- Raised by `step` when a taken branch has made `cpc` negative or greater than the program's length: the program is
  malformed and the run has failed without issuing anything (45_host_sequencer.md R217, 93 U9 "stuck"). Safe. -/
  | branchOutsideProgram
deriving DecidableEq, Repr

/-- Why a step has no meaning. -/
inductive Refusal where
  /-- Raised by an arm of `exec` for an instruction that has no meaning yet; no arm does so in this model. Safe. -/
  | notModelled (mnemonic : String)
deriving DecidableEq, Repr

/-- The response port: the result of the command last accepted (30_encoding.md R71, R73). -/
structure Response where
  valid : Bool
  res : Word
  br : Bool
  skip : Bool
  err : Bool
deriving DecidableEq, Repr

/-- The response outputs at reset: all 0 (70_reset_and_hazards.md R260). -/
def Response.idle : Response := ⟨false, 0, false, false, false⟩

/-- The response of a command with a result and no other verdict (R73). -/
def Response.ofResult (res : Word) : Response := ⟨true, res, false, false, false⟩

/-- The response of a decrement-and-branch command: `RES` = zext(`BR`) (43_decrement_branch.md R173). -/
def Response.ofBranch (br : Bool) : Response := ⟨true, (BitVec.ofBool br).setWidth 32, br, false, false⟩

/-- The response of a skipped memory command (20_memory.md R59). -/
def Response.skipped : Response := ⟨true, 0, false, true, false⟩

/-- The response of a refused command: `ERR` = 1 and the other three 0 (R73, 60_exceptions.md R232, R235). -/
def Response.error : Response := ⟨true, 0, false, false, true⟩

/-- One attached buffer: its length `BUFLEN[b]`, at most 2^31 - 1, and its bytes as a list of (offset, byte) cells in
canonical form: offsets strictly rising, below the length, no byte equal to what an unlisted offset reads as
(20_memory.md R50, R52). -/
structure Buffer where
  len : Fin (2 ^ 31)
  cells : List Host.Cell
deriving DecidableEq, Repr

/-- What a byte of a buffer that nothing has written reads as: the host's data, 0x00 here (notes/assumptions/2.md,
DESIGN CHOICE, unsafe). -/
def unlistedByte : Byte := 0x00

/-- The cells are in canonical form, for a buffer of the given length. -/
def cellsWf (len : Nat) : List Host.Cell → Bool
  | [] => true
  | (a, b) :: rest => decide (a < len) && !(b == unlistedByte) && rest.all (fun c => decide (a < c.1)) && cellsWf len rest

/-- The buffer's cells are in canonical form; the limit of its length (R52) is in its type. -/
def Buffer.wf (b : Buffer) : Bool := cellsWf b.len.val b.cells

/-- The attached buffers, numbered from 0 (20_memory.md R51): `NBUF` is the list's length. -/
structure Memory where
  buffers : List Buffer
deriving DecidableEq, Repr

/-- The canonical form of memory, and the limits of `NBUF` (00_scope.md R9, 20_memory.md R52). -/
def Memory.wf (m : Memory) : Bool :=
  decide (1 ≤ m.buffers.length) && decide (m.buffers.length ≤ 2 ^ 32) && m.buffers.all Buffer.wf

/-- The whole machine. -/
structure State where
  /-- `D0`..`D7`, `A0`..`A7` (10_state.md R20 to R22). -/
  regs : Vector Word 16
  /-- `X N Z V C` (R28). -/
  flags : Flags
  /-- `FAULT` (R35). -/
  fault : Bool
  /-- `FCODE` (R35). -/
  fcode : BitVec 3
  /-- `RSP_VALID`, `RES`, `BR`, `SKIP`, `ERR` (30_encoding.md R71, R73). -/
  rsp : Response
  /-- `CMD_READY` (30_encoding.md R71, R72, 70_reset_and_hazards.md R260): 0 only while `RST` is asserted. -/
  cmdReady : Bool
  /-- The attached buffers (10_state.md R37, 20_memory.md R50 to R52). -/
  mem : Memory
  /-- The parameter `HDR_ROWS`, a signed 32-bit number of rows (00_scope.md R9, 44_addressing_helpers.md R202). -/
  hdrRows : Word
  /-- The parameter `FLAG_RESET`: the value of the five flags after reset (00_scope.md R9, 10_state.md R32). -/
  flagReset : Flags
  /-- The parameter `EDGE_RULE`: which memory accesses are skipped (00_scope.md R9, 20_memory.md R60). -/
  edgeRule : EdgeRule
  /-- The reference sequencer's program `P[0 .. L-1]` (45_host_sequencer.md R214). -/
  program : List Record
  /-- The reference sequencer's command index; negative only after a malformed branch (45_host_sequencer.md R214, R217). -/
  cpc : Int
deriving DecidableEq, Repr

/-- All sixteen registers at 0 (10_state.md R26). -/
def zeroRegs : Vector Word 16 := Vector.replicate 16 0

/-- The buffers attached when the machine is reset: `NBUF` of them, each of a length the platform supplies, every byte
unlisted (notes/assumptions/1.md and 2.md). -/
def resetMemory : Memory := ⟨(List.range defaultNbuf).map fun b => ⟨Config.bufLen b, []⟩⟩

/-- The machine right after reset (70_reset_and_hazards.md R260, 10_state.md R40): the core's state at its reset values,
`RST` released, the sequencer at `cpc` = 0 with no program loaded (notes/assumptions/6.md). -/
def State.reset : State :=
  { regs := zeroRegs
    flags := defaultFlagReset
    fault := false
    fcode := 0
    rsp := Response.idle
    cmdReady := true
    mem := resetMemory
    hdrRows := Config.hdrRows
    flagReset := defaultFlagReset
    edgeRule := defaultEdgeRule
    program := []
    cpc := 0 }

end Sys2Proof.Machine
end

