-- ==== Sys2Proof/Machine/Ops.lean ====
section
/-! DEFINITION. The named operations over the registers, the buffers and the response (10_state.md, 20_memory.md), the
status views (30_encoding.md R74), and the one exception, `IllegalCommand` (60_exceptions.md R232 to R236). -/

namespace Sys2Proof.Machine

/-! ## Registers -/

/-- `x[r]` (00_scope.md R11). -/
def State.reg (s : State) (r : RegNum) : Word := s.regs.get r

/-- `x[r] <- v` (00_scope.md R11). -/
def State.setReg (s : State) (r : RegNum) (v : Word) : State := { s with regs := s.regs.set r.val v r.isLt }

/-- `x[RD] <- RES` if `WB` = 1 (30_encoding.md R77). -/
def State.writeBack (s : State) (rd : Option RegNum) (res : Word) : State :=
  match rd with
  | none => s
  | some r => s.setReg r res

/-! ## Buffers -/

/-- The byte listed at an offset. -/
def findCell (a : Nat) : List Host.Cell → Option Byte
  | [] => none
  | (k, b) :: rest => if k = a then some b else findCell a rest

/-- The cells with none at an offset. -/
def eraseCell (a : Nat) (cells : List Host.Cell) : List Host.Cell := cells.filter fun c => !(c.1 == a)

/-- A cell put before the first of a greater offset. -/
def insertCell (a : Nat) (b : Byte) : List Host.Cell → List Host.Cell
  | [] => [(a, b)]
  | (k, w) :: rest => if a < k then (a, b) :: (k, w) :: rest else (k, w) :: insertCell a b rest

/-- The cells with a byte at an offset, in canonical form: the byte an unlisted offset reads as is not listed. -/
def putCell (a : Nat) (b : Byte) (cells : List Host.Cell) : List Host.Cell :=
  if b = unlistedByte then eraseCell a cells else insertCell a b (eraseCell a cells)

/-- The byte at an offset of a buffer (20_memory.md R50, R63). An offset past the end, which no performed access reaches
under any `EDGE_RULE`, reads as an unlisted byte (notes/assumptions/13.md). -/
def Buffer.readByte (b : Buffer) (off : Nat) : Byte := (findCell off b.cells).getD unlistedByte

/-- The buffer with a byte written at an offset (R50, R63). An offset past the end holds no byte: nothing is written. -/
def Buffer.writeByte (b : Buffer) (off : Nat) (v : Byte) : Buffer :=
  if off < b.len.val then { b with cells := putCell off v b.cells } else b

/-- The `n` bytes from an offset up, in order. -/
def Buffer.readBytes (b : Buffer) (off n : Nat) : List Byte := (List.range n).map fun i => b.readByte (off + i)

/-- The bytes of a list written from an offset up, in order. -/
def Buffer.writeBytes (b : Buffer) (off : Nat) : List Byte → Buffer
  | [] => b
  | v :: rest => (b.writeByte off v).writeBytes (off + 1) rest

/-- `MemRead(b, off, n)`: the n-byte big-endian value, zero-extended to 32 bits (R53). -/
def Buffer.memRead (b : Buffer) (off n : Nat) : Word := ofBytesBE (b.readBytes off n)

/-- `MemWrite(b, off, n, v)`: the low `8n` bits of `v`, most significant byte first (R54). -/
def Buffer.memWrite (b : Buffer) (off n : Nat) (v : Word) : Buffer := b.writeBytes off (toBytesBE n v)

/-- `NBUF` (R51). -/
def Memory.nbuf (m : Memory) : Nat := m.buffers.length

/-- Buffer number `b`, if it is attached (R51). -/
def Memory.buffer (m : Memory) (b : Nat) : Option Buffer := m.buffers[b]?

/-- The memory with buffer number `b` replaced, the others unchanged (R51). -/
def Memory.setBuffer (m : Memory) (b : Nat) (buf : Buffer) : Memory := ⟨m.buffers.set b buf⟩

/-- `BUFLEN[b]`, if buffer `b` is attached (R52). -/
def Memory.bufLen (m : Memory) (b : Nat) : Option Nat := (m.buffer b).map fun buf => buf.len.val

/-- The byte at an offset of buffer `b`; none where no byte exists (R50). -/
def Memory.byteAt (m : Memory) (b off : Nat) : Option Byte :=
  match m.buffer b with
  | none => none
  | some buf => if off < buf.len.val then some (buf.readByte off) else none

/-! ## Response and status -/

/-- The state with the response of the command just executed (30_encoding.md R73). -/
def State.respond (s : State) (r : Response) : State := { s with rsp := r }

/-- `RES <- res`, and the write-back after every other effect (R73, R77). -/
def State.finish (s : State) (res : Word) (rd : Option RegNum) : State :=
  (s.writeBack rd res).respond (Response.ofResult res)

/-- The `CCR` output (30_encoding.md R74, 10_state.md R34). -/
def State.ccr (s : State) : BitVec 5 := s.flags.toCcr

/-- The `STATUS` output, `{FAULT, FCODE}` (30_encoding.md R74, 10_state.md R35). -/
def State.status (s : State) : BitVec 4 := BitVec.ofBool s.fault ++ s.fcode

/-! ## The exception `IllegalCommand` -/

/-- The cause code `FCODE` holds (60_exceptions.md R233). -/
def causeCode : Cause → BitVec 3
  | .illegalOpcode => 1
  | .illegalSize => 2
  | .illegalField => 3
  | .badRegister => 4
  | .badBuffer => 5

/-- `raise IllegalCommand(code)`: `FAULT` and `FCODE` are set and the response is `ERR` = 1; nothing is saved, no other
state changes, control goes nowhere (60_exceptions.md R232, R241). There is no return from it: only `RST` clears it (R236). -/
def State.raise (s : State) (cause : Cause) : State :=
  { s with fault := true, fcode := causeCode cause, rsp := Response.error }

/-- The answer to a command presented while `FAULT` = 1: `ERR` = 1 and no change of state (60_exceptions.md R235). -/
def State.answerFaulted (s : State) : State := s.respond Response.error

/-- One command: while `FAULT` = 1 it is answered and does nothing (R235); if one of its checks fails it raises
`IllegalCommand` and has no other effect (R232); otherwise its effect happens. -/
def State.settle (s : State) (effect : Except Cause State) : State :=
  if s.fault then s.answerFaulted
  else
    match effect with
    | .error cause => s.raise cause
    | .ok t => t

/-- A command as an outcome: it always answers a next state (30_encoding.md R72, R84). -/
def State.command (s : State) (effect : Except Cause State) : Host.Outcome State Fault Refusal := .next (s.settle effect)

end Sys2Proof.Machine
end

