-- ==== Sys2Proof/Machine/Operands.lean ====
section
/-! DEFINITION. Operand resolution with the checks on operand words (30_encoding.md R76, R81, R82 checks 4 and 5), and the
operations that the commands of one family share, each written once. -/

namespace Sys2Proof.Machine

/-! ## Operand forms -/

/-- The resolved operand: the operand word itself, or the register it numbers, which must be one of the sixteen (R76). -/
def resolve (s : State) : Src → Except Cause Word
  | .imm v => .ok v
  | .reg n => if h : n.toNat < 16 then .ok (s.reg ⟨n.toNat, h⟩) else .error .badRegister

/-- The flag a flag number names, which must be at most 4 (R81, R82 check 4). -/
def resolveFlag (number : Word) : Except Cause Flag :=
  match flagOfNumber number with
  | some f => .ok f
  | none => .error .badRegister

/-- The counter register, which must be a data register (R82 check 4, 43_decrement_branch.md R171). -/
def resolveCounter (counter : RegNum) : Except Cause RegNum :=
  if counter.val < 8 then .ok counter else .error .badRegister

/-- The buffer a buffer number names, which must be below `NBUF` (R81, R82 check 5). -/
def resolveBuffer (s : State) (number : Word) : Except Cause Buffer :=
  match s.mem.buffer number.toNat with
  | some b => .ok b
  | none => .error .badBuffer

/-! ## Shifts and rotates (41_shift_rotate.md R120 to R124) -/

/-- The effect of a shift or rotate at width W: the low W bits of the value, the count modulo W, flags, `RES` zero-extended. -/
def shiftEffect (width : Nat) (k : ShiftKind) (value count : Src) (rd : Option RegNum) (s : State) : Except Cause State := do
  let op1 ← resolve s value
  let op2 ← resolve s count
  let v := op1.setWidth width
  let e := effectiveCount width op2
  .ok (State.finish { s with flags := s.flags.afterShift k v e } ((shiftResult k v e).setWidth 32) rd)

/-! ## AND and OR on a buffer (42_logical_memory.md R152) -/

/-- The performed read-modify-write of `n` bytes at an offset of a buffer (R152, R153). -/
def logicPerform (k : LogicKind) (n : Nat) (s : State) (number : Nat) (buf : Buffer) (off : Nat) (mask : Word)
    (rd : Option RegNum) : State :=
  let r := logicResult k ((buf.memRead off n).setWidth (8 * n)) (mask.setWidth (8 * n))
  State.finish
    { s with mem := s.mem.setBuffer number (buf.memWrite off n (r.setWidth 32)), flags := s.flags.afterLogic r }
    (r.setWidth 32) rd

/-- The effect of `and` or `or` at a width of `n` bytes: skipped whole or performed, as the parameter `EDGE_RULE` of the
machine says (R152, 20_memory.md R57 to R60). -/
def logicEffect (k : LogicKind) (n : Nat) (offset value : Src) (buffer : Word) (rd : Option RegNum)
    (s : State) : Except Cause State := do
  let op1 ← resolve s offset
  let op2 ← resolve s value
  let buf ← resolveBuffer s buffer
  .ok (if s.edgeRule.skips op1.toInt n buf.len.val then s.respond Response.skipped
    else logicPerform k n s buffer.toNat buf op1.toInt.toNat op2 rd)

/-! ## Decrement and branch (43_decrement_branch.md R173) -/

/-- The effect of a decrement-and-branch command: the loop is over and nothing is decremented if the condition holds;
otherwise the low half is decremented and the verdict is whether it has not run out (R173, R191). -/
def decBranchEffect (k : Cond) (counter : RegNum) (s : State) : Except Cause State := do
  let d ← resolveCounter counter
  .ok (if condHolds k s.flags then s.respond (Response.ofBranch false)
    else
      let c' := decrementedCounter ((s.reg d).setWidth 16)
      (s.setReg d (withLowHalf (s.reg d) c')).respond (Response.ofBranch (c' != 0xFFFF#16)))

/-! ## Addressing helpers (44_addressing_helpers.md R200) -/

/-- The effect of a helper with the given number of header rows (R201, R202). -/
def offsetEffect (header : Int) (stride x y : Src) (rd : Option RegNum) (s : State) : Except Cause State := do
  let op1 ← resolve s stride
  let op2 ← resolve s x
  let op3 ← resolve s y
  .ok (s.finish (byteOffset header op1 op2 op3) rd)

end Sys2Proof.Machine
end

