-- ==== Sys2Proof/Machine/AddressingHelpers.lean ====
section
/-! DEFINITION. The addressing helpers (44_addressing_helpers.md), over the one operation `offsetEffect`. -/

namespace Sys2Proof.Machine

/-- `offs` (R201). -/
def execOffs (stride x y : Src) (rd : Option RegNum) (s : State) : Host.Outcome State Fault Refusal :=
  s.command (offsetEffect 0 stride x y rd s)

/-- `offs_hdr` (R202): the header is the platform's `HDR_ROWS`, a signed number of rows. -/
def execOffsHdr (stride x y : Src) (rd : Option RegNum) (s : State) : Host.Outcome State Fault Refusal :=
  s.command (offsetEffect s.hdrRows.toInt stride x y rd s)

end Sys2Proof.Machine
end

