-- ==== Sys2Proof/Machine/DecrementBranch.lean ====
section
/-! DEFINITION. The decrement-and-branch predicates (43_decrement_branch.md): sixteen conditions over the one operation
`decBranchEffect`. The displacement is not read by the core (R173). No flag is written (R192). -/

namespace Sys2Proof.Machine

/-- `dbt` (R174). -/
def execDbt (counter : RegNum) (s : State) : Host.Outcome State Fault Refusal :=
  s.command (decBranchEffect .t counter s)

/-- `dbra` (R175). -/
def execDbra (counter : RegNum) (s : State) : Host.Outcome State Fault Refusal :=
  s.command (decBranchEffect .ra counter s)

/-- `dbhi` (R176). -/
def execDbhi (counter : RegNum) (s : State) : Host.Outcome State Fault Refusal :=
  s.command (decBranchEffect .hi counter s)

/-- `dbls` (R177). -/
def execDbls (counter : RegNum) (s : State) : Host.Outcome State Fault Refusal :=
  s.command (decBranchEffect .ls counter s)

/-- `dbcc` (R178). -/
def execDbcc (counter : RegNum) (s : State) : Host.Outcome State Fault Refusal :=
  s.command (decBranchEffect .cc counter s)

/-- `dbcs` (R179). -/
def execDbcs (counter : RegNum) (s : State) : Host.Outcome State Fault Refusal :=
  s.command (decBranchEffect .cs counter s)

/-- `dbne` (R180). -/
def execDbne (counter : RegNum) (s : State) : Host.Outcome State Fault Refusal :=
  s.command (decBranchEffect .ne counter s)

/-- `dbeq` (R181). -/
def execDbeq (counter : RegNum) (s : State) : Host.Outcome State Fault Refusal :=
  s.command (decBranchEffect .eq counter s)

/-- `dbvc` (R182). -/
def execDbvc (counter : RegNum) (s : State) : Host.Outcome State Fault Refusal :=
  s.command (decBranchEffect .vc counter s)

/-- `dbvs` (R183). -/
def execDbvs (counter : RegNum) (s : State) : Host.Outcome State Fault Refusal :=
  s.command (decBranchEffect .vs counter s)

/-- `dbpl` (R184). -/
def execDbpl (counter : RegNum) (s : State) : Host.Outcome State Fault Refusal :=
  s.command (decBranchEffect .pl counter s)

/-- `dbmi` (R185). -/
def execDbmi (counter : RegNum) (s : State) : Host.Outcome State Fault Refusal :=
  s.command (decBranchEffect .mi counter s)

/-- `dbge` (R186). -/
def execDbge (counter : RegNum) (s : State) : Host.Outcome State Fault Refusal :=
  s.command (decBranchEffect .ge counter s)

/-- `dblt` (R187). -/
def execDblt (counter : RegNum) (s : State) : Host.Outcome State Fault Refusal :=
  s.command (decBranchEffect .lt counter s)

/-- `dbgt` (R188). -/
def execDbgt (counter : RegNum) (s : State) : Host.Outcome State Fault Refusal :=
  s.command (decBranchEffect .gt counter s)

/-- `dble` (R189). -/
def execDble (counter : RegNum) (s : State) : Host.Outcome State Fault Refusal :=
  s.command (decBranchEffect .le counter s)

end Sys2Proof.Machine
end

