-- ==== Sys2Proof/Machine/LogicalMemory.lean ====
section
/-! DEFINITION. The logical commands on a memory buffer (42_logical_memory.md): AND and OR at byte, word and long width,
over the one operation `logicEffect`. -/

namespace Sys2Proof.Machine

/-- `or_b` (R159). -/
def execOrB (offset value : Src) (buffer : Word) (rd : Option RegNum) (s : State) :
    Host.Outcome State Fault Refusal :=
  s.command (logicEffect .or 1 offset value buffer rd s)

/-- `or_w` (R160). -/
def execOrW (offset value : Src) (buffer : Word) (rd : Option RegNum) (s : State) :
    Host.Outcome State Fault Refusal :=
  s.command (logicEffect .or 2 offset value buffer rd s)

/-- `or_l` (R161). -/
def execOrL (offset value : Src) (buffer : Word) (rd : Option RegNum) (s : State) :
    Host.Outcome State Fault Refusal :=
  s.command (logicEffect .or 4 offset value buffer rd s)

/-- `and_b` (R156). -/
def execAndB (offset value : Src) (buffer : Word) (rd : Option RegNum) (s : State) :
    Host.Outcome State Fault Refusal :=
  s.command (logicEffect .and 1 offset value buffer rd s)

/-- `and_w` (R157). -/
def execAndW (offset value : Src) (buffer : Word) (rd : Option RegNum) (s : State) :
    Host.Outcome State Fault Refusal :=
  s.command (logicEffect .and 2 offset value buffer rd s)

/-- `and_l` (R158). -/
def execAndL (offset value : Src) (buffer : Word) (rd : Option RegNum) (s : State) :
    Host.Outcome State Fault Refusal :=
  s.command (logicEffect .and 4 offset value buffer rd s)

end Sys2Proof.Machine
end

