-- ==== Sys2Proof/Machine/RegisterAccess.lean ====
section
/-! DEFINITION. `rmov`, `radd`, `flgget`, `flgset` (40_register_access.md). None touches a flag it is not told to. -/

namespace Sys2Proof.Machine

/-- `rmov` (R101, R102). -/
def execRmov (src : Src) (rd : Option RegNum) (s : State) : Host.Outcome State Fault Refusal :=
  s.command do
    let op1 ← resolve s src
    .ok (s.finish op1 rd)

/-- `radd` (R103): the sum wraps, no flag is written. -/
def execRadd (a b : Src) (rd : Option RegNum) (s : State) : Host.Outcome State Fault Refusal :=
  s.command do
    let op1 ← resolve s a
    let op2 ← resolve s b
    .ok (s.finish (addResult op1 op2) rd)

/-- `flgget` (R104). -/
def execFlgget (flag : Word) (rd : Option RegNum) (s : State) : Host.Outcome State Fault Refusal :=
  s.command do
    let f ← resolveFlag flag
    .ok (s.finish ((BitVec.ofBool (s.flags.get f)).setWidth 32) rd)

/-- `flgset` (R105): only bit 0 of the new value is used, `RES` is 0. -/
def execFlgset (flag : Word) (src : Src) (s : State) : Host.Outcome State Fault Refusal :=
  s.command do
    let f ← resolveFlag flag
    let op2 ← resolve s src
    .ok (State.finish { s with flags := s.flags.set f (op2.getLsbD 0) } 0 none)

end Sys2Proof.Machine
end

