-- ==== Sys2Proof/Machine/ShiftRotate.lean ====
section
/-! DEFINITION. The shift and rotate commands (41_shift_rotate.md): six operations at word and long width, over the one
operation `shiftEffect`. -/

namespace Sys2Proof.Machine

/-- `asr_w` (R125). -/
def execAsrW (value count : Src) (rd : Option RegNum) (s : State) : Host.Outcome State Fault Refusal :=
  s.command (shiftEffect 16 .asr value count rd s)

/-- `asr_l` (R126). -/
def execAsrL (value count : Src) (rd : Option RegNum) (s : State) : Host.Outcome State Fault Refusal :=
  s.command (shiftEffect 32 .asr value count rd s)

/-- `asl_w` (R127). -/
def execAslW (value count : Src) (rd : Option RegNum) (s : State) : Host.Outcome State Fault Refusal :=
  s.command (shiftEffect 16 .asl value count rd s)

/-- `asl_l` (R128). -/
def execAslL (value count : Src) (rd : Option RegNum) (s : State) : Host.Outcome State Fault Refusal :=
  s.command (shiftEffect 32 .asl value count rd s)

/-- `lsr_w` (R129). -/
def execLsrW (value count : Src) (rd : Option RegNum) (s : State) : Host.Outcome State Fault Refusal :=
  s.command (shiftEffect 16 .lsr value count rd s)

/-- `lsr_l` (R130). -/
def execLsrL (value count : Src) (rd : Option RegNum) (s : State) : Host.Outcome State Fault Refusal :=
  s.command (shiftEffect 32 .lsr value count rd s)

/-- `lsl_w` (R131). -/
def execLslW (value count : Src) (rd : Option RegNum) (s : State) : Host.Outcome State Fault Refusal :=
  s.command (shiftEffect 16 .lsl value count rd s)

/-- `lsl_l` (R132). -/
def execLslL (value count : Src) (rd : Option RegNum) (s : State) : Host.Outcome State Fault Refusal :=
  s.command (shiftEffect 32 .lsl value count rd s)

/-- `ror_w` (R133). -/
def execRorW (value count : Src) (rd : Option RegNum) (s : State) : Host.Outcome State Fault Refusal :=
  s.command (shiftEffect 16 .ror value count rd s)

/-- `ror_l` (R134). -/
def execRorL (value count : Src) (rd : Option RegNum) (s : State) : Host.Outcome State Fault Refusal :=
  s.command (shiftEffect 32 .ror value count rd s)

/-- `rol_w` (R135). -/
def execRolW (value count : Src) (rd : Option RegNum) (s : State) : Host.Outcome State Fault Refusal :=
  s.command (shiftEffect 16 .rol value count rd s)

/-- `rol_l` (R136). -/
def execRolL (value count : Src) (rd : Option RegNum) (s : State) : Host.Outcome State Fault Refusal :=
  s.command (shiftEffect 32 .rol value count rd s)

end Sys2Proof.Machine
end

