-- ==== Sys2Proof/Machine/Dispatch.lean ====
section
/-! DEFINITION. The meaning of each command, one arm per constructor of `Instr`. -/

namespace Sys2Proof.Machine

def exec (i : Instr) (s : State) : Host.Outcome State Fault Refusal :=
  match i with
  | .rmov src rd => Sys2Proof.Machine.execRmov src rd s
  | .radd a b rd => Sys2Proof.Machine.execRadd a b rd s
  | .flgget flag rd => Sys2Proof.Machine.execFlgget flag rd s
  | .flgset flag src => Sys2Proof.Machine.execFlgset flag src s
  | .dbt counter _ => Sys2Proof.Machine.execDbt counter s
  | .dbra counter _ => Sys2Proof.Machine.execDbra counter s
  | .dbhi counter _ => Sys2Proof.Machine.execDbhi counter s
  | .dbls counter _ => Sys2Proof.Machine.execDbls counter s
  | .dbcc counter _ => Sys2Proof.Machine.execDbcc counter s
  | .dbcs counter _ => Sys2Proof.Machine.execDbcs counter s
  | .dbne counter _ => Sys2Proof.Machine.execDbne counter s
  | .dbeq counter _ => Sys2Proof.Machine.execDbeq counter s
  | .dbvc counter _ => Sys2Proof.Machine.execDbvc counter s
  | .dbvs counter _ => Sys2Proof.Machine.execDbvs counter s
  | .dbpl counter _ => Sys2Proof.Machine.execDbpl counter s
  | .dbmi counter _ => Sys2Proof.Machine.execDbmi counter s
  | .dbge counter _ => Sys2Proof.Machine.execDbge counter s
  | .dblt counter _ => Sys2Proof.Machine.execDblt counter s
  | .dbgt counter _ => Sys2Proof.Machine.execDbgt counter s
  | .dble counter _ => Sys2Proof.Machine.execDble counter s
  | .orB offset value buffer rd => Sys2Proof.Machine.execOrB offset value buffer rd s
  | .orW offset value buffer rd => Sys2Proof.Machine.execOrW offset value buffer rd s
  | .orL offset value buffer rd => Sys2Proof.Machine.execOrL offset value buffer rd s
  | .andB offset value buffer rd => Sys2Proof.Machine.execAndB offset value buffer rd s
  | .andW offset value buffer rd => Sys2Proof.Machine.execAndW offset value buffer rd s
  | .andL offset value buffer rd => Sys2Proof.Machine.execAndL offset value buffer rd s
  | .offs stride x y rd => Sys2Proof.Machine.execOffs stride x y rd s
  | .offsHdr stride x y rd => Sys2Proof.Machine.execOffsHdr stride x y rd s
  | .asrW value count rd => Sys2Proof.Machine.execAsrW value count rd s
  | .asrL value count rd => Sys2Proof.Machine.execAsrL value count rd s
  | .aslW value count rd => Sys2Proof.Machine.execAslW value count rd s
  | .aslL value count rd => Sys2Proof.Machine.execAslL value count rd s
  | .lsrW value count rd => Sys2Proof.Machine.execLsrW value count rd s
  | .lsrL value count rd => Sys2Proof.Machine.execLsrL value count rd s
  | .lslW value count rd => Sys2Proof.Machine.execLslW value count rd s
  | .lslL value count rd => Sys2Proof.Machine.execLslL value count rd s
  | .rorW value count rd => Sys2Proof.Machine.execRorW value count rd s
  | .rorL value count rd => Sys2Proof.Machine.execRorL value count rd s
  | .rolW value count rd => Sys2Proof.Machine.execRolW value count rd s
  | .rolL value count rd => Sys2Proof.Machine.execRolL value count rd s

end Sys2Proof.Machine
end

