-- ==== Sys2Proof/Machine/Sequencer.lean ====
section
/-! DEFINITION. The core's ports as a host uses them (30_encoding.md R71, R72), and the one host the spec defines: the
reference sequencer (45_host_sequencer.md R214 to R217). -/

namespace Sys2Proof.Machine

/-! ## The command port -/

/-- A record presented on the command port and accepted: while `FAULT` = 1 it is not decoded (60_exceptions.md R235); a
record that fails a check of decoding raises `IllegalCommand` (30_encoding.md R82); otherwise the command executes. -/
def State.issue (s : State) (r : Record) : Host.Outcome State Fault Refusal :=
  match decode r with
  | .error cause => s.command (.error cause)
  | .ok i => exec i s

/-- A record presented on the command port by any host: transferred only when `CMD_READY` = 1 (R71, R72). -/
def State.present (s : State) (r : Record) : Host.Outcome State Fault Refusal :=
  if s.cmdReady then s.issue r else .next s

/-! ## The reset port (70_reset_and_hazards.md R260, R261) -/

/-- `RST` asserted: every piece of the core's state has its reset value and no command is accepted; the buffers, the
parameters and what belongs to the host are not changed (R260, 10_state.md R27, R38). -/
def State.assertReset (s : State) : State :=
  { s with regs := zeroRegs, flags := s.flagReset, fault := false, fcode := 0, rsp := Response.idle, cmdReady := false }

/-- `RST` released: the core is ready (R260, R263). -/
def State.releaseReset (s : State) : State := { s with cmdReady := true }

/-- One pulse of `RST` (R261). -/
def State.pulseReset (s : State) : State := s.assertReset.releaseReset

/-- The host seeds one register: one `rmov #<value> -> <reg>`, the value reduced modulo 2^32 (R262, 10_state.md R24). -/
def State.seed (s : State) (r : RegNum) (v : Int) : State :=
  match exec (.regwr r (immediate v)) s with
  | .next t => t
  | .fault _ => s
  | .refused _ => s

/-- `context { ... }`: `RST`, then one register write for each listed register (R262, 30_encoding.md R87). Neither rule says
which value stands where a register is listed twice: the entries are written in the order listed, so the last one stands
(DESIGN CHOICE, notes/assumptions/16.md). -/
def State.createContext (s : State) (config : List (RegNum × Int)) : State :=
  config.foldl (fun t entry => t.seed entry.1 entry.2) s.pulseReset

/-! ## The memory port (20_memory.md R51, R52, R67) -/

/-- A buffer that holds the bytes of a list; none if it is longer than a buffer can be (R52). -/
def Buffer.ofBytes (bytes : List Byte) : Option Buffer :=
  if h : bytes.length < 2 ^ 31 then some ((Buffer.mk ⟨bytes.length, h⟩ []).writeBytes 0 bytes) else none

/-- The buffers that hold the bytes of each list, in order; none if one is too long. -/
def buffersOfBytes : List (List Byte) → Option (List Buffer)
  | [] => some []
  | bytes :: rest =>
    match Buffer.ofBytes bytes, buffersOfBytes rest with
    | some b, some bs => some (b :: bs)
    | _, _ => none

/-- The host attaches buffers: one for each byte list, numbered from 0 (R51). `NBUF` and `BUFLEN` are fixed before the first
command and until the next reset (R52, 70_reset_and_hazards.md R263), so none once a command has been answered since
reset, and none outside the limits of `NBUF` and `BUFLEN` (00_scope.md R9; notes/assumptions/17.md). -/
def State.attach (s : State) (contents : List (List Byte)) : Option State :=
  if s.rsp.valid then none
  else if 1 ≤ contents.length ∧ contents.length ≤ 2 ^ 32 then
    (buffersOfBytes contents).map fun bs => { s with mem := ⟨bs⟩ }
  else none

/-- The host reads a byte of a buffer between commands (R67); none where no buffer has that number or the offset is not below
its length, of which R67 says nothing (DESIGN CHOICE, notes/assumptions/13.md). -/
def State.hostRead (s : State) (b off : Nat) : Option Byte := s.mem.byteAt b off

/-- The host writes a byte of a buffer between commands (R67). R67 says nothing of a byte that does not exist: where no
buffer has that number, or the offset is not below its length, the state is unchanged (DESIGN CHOICE,
notes/assumptions/13.md). -/
def State.hostWrite (s : State) (b off : Nat) (v : Byte) : State :=
  match s.mem.buffer b with
  | none => s
  | some buf => { s with mem := s.mem.setBuffer b (buf.writeByte off v) }

/-! ## The reference sequencer -/

/-- The reference sequencer is started on a program: the core is reset, seeded as a `context` header lists (an empty list
is `RST` alone), the program is in place and `cpc` = 0 (R214). It is how a program comes to run, and how a run that has
ended or failed is followed by another. -/
def State.startSequencer (s : State) (config : List (RegNum × Int)) (program : List Record) : State :=
  { s.createContext config with program := program, cpc := 0 }

/-- The sequencer started on a program of `count` records kept in bytes (R212); none if the bytes hold fewer. -/
def State.startSequencerFromBytes (s : State) (config : List (RegNum × Int)) (count : Nat) (bytes : List Byte) :
    Option State :=
  (programOfBytes count bytes).map (s.startSequencer config)

/-- The state of a run (R215 to R217). -/
inductive RunStatus where
  /-- 0 <= `cpc` < L and `FAULT` = 0: the record at `cpc` is next. -/
  | running (r : Record)
  /-- `cpc` = L: the run is complete. -/
  | complete
  /-- `FAULT` = 1: a command answered `ERR` = 1, the run has failed. -/
  | stopped
  /-- `cpc` is negative or greater than L: the program is malformed, the run has failed. -/
  | malformed
deriving DecidableEq, Repr

/-- Where the run stands (R215 to R217). -/
def State.runStatus (s : State) : RunStatus :=
  if s.fault then .stopped
  else if s.cpc < 0 then .malformed
  else
    match s.program[s.cpc.toNat]? with
    | some r => .running r
    | none => if s.cpc = s.program.length then .complete else .malformed

/-- The record's control word is in group 5, a decrement-and-branch (R215: `CW[31:28]` = 0x5). -/
def isDecBranch (r : Record) : Bool := r.cw.extractLsb' 28 4 == 5#4

/-- The command index after the response to a command: unchanged on `ERR` = 1, moved by the signed displacement, counted
in commands from the command itself, on a decrement-and-branch with `BR` = 1, else the next index (R215, R217). -/
def nextCpc (cpc : Int) (r : Record) (rsp : Response) : Int :=
  if rsp.err then cpc
  else if isDecBranch r && rsp.br then cpc + r.op1.toInt
  else cpc + 1

/-- The state after the sequencer has received the response to the command `r` (R215). -/
def State.advance (s : State) (r : Record) : State := { s with cpc := nextCpc s.cpc r s.rsp }

/-- One step of the reference sequencer (R215): issue the record at `cpc`, receive the response, move `cpc`. With the core
not ready nothing is transferred (30_encoding.md R72). At the end of the run nothing is issued and nothing changes (R216,
notes/assumptions/8.md); after a failed run the sequencer has stopped (R217, notes/assumptions/7.md and 9.md). -/
def State.sequence (s : State) : Host.Outcome State Fault Refusal :=
  if s.cmdReady then
    match s.runStatus with
    | .running r =>
      match s.issue r with
      | .next t => .next (t.advance r)
      | .fault f => .fault f
      | .refused f => .refused f
    | .complete => .next s
    | .stopped => .fault (.stoppedByFault s.fcode)
    | .malformed => .fault .branchOutsideProgram
  else .next s

/-- The program with a record at index `n`, where the index is at most the program's length. -/
def placeRecord (program : List Record) (n : Nat) (r : Record) : List Record := program.take n ++ r :: program.drop (n + 1)

end Sys2Proof.Machine
end

