-- ==== Sys2Proof/Machine/Step.lean ====
section
/-! DEFINITION. The step of the machine, and how an instruction is put where the next step fetches it. -/

namespace Sys2Proof.Machine

/-- One step: the reference sequencer issues one command to the core (45_host_sequencer.md R215). -/
def step (s : State) : Host.Outcome State Fault Refusal := s.sequence

/-- The state with the record of a table word in the program at `cpc`, in place of the record there or after the last one;
a `cpc` outside the program is put at the start of a program of that record alone. -/
def State.withFetchWord (s : State) (nbits w : Nat) : State :=
  if 0 ≤ s.cpc ∧ s.cpc ≤ s.program.length then
    { s with program := placeRecord s.program s.cpc.toNat (Record.ofTableWord nbits w) }
  else { s with program := [Record.ofTableWord nbits w], cpc := 0 }

end Sys2Proof.Machine
end

