-- ==== Sys2Proof/Machine/Assembler.lean ====
section
/-! DEFINITION. The assembler line of 30_encoding.md R86 and the pseudo-instructions of R87, as text: reading one line to
an instruction, and writing an instruction as a line. Text is a list of characters. How a label is declared and how the
`context` header is laid out as text is left open by R86 and R87, so labels are an environment here and the header is
`State.createContext` (notes/assumptions/16.md). -/

namespace Sys2Proof.Machine

/-! ## Reading -/

/-- The value of a hexadecimal digit. -/
def digitValue (ch : Char) : Option Nat :=
  if '0' ≤ ch ∧ ch ≤ '9' then some (ch.toNat - 48)
  else if 'a' ≤ ch ∧ ch ≤ 'f' then some (ch.toNat - 87)
  else if 'A' ≤ ch ∧ ch ≤ 'F' then some (ch.toNat - 55)
  else none

/-- The value of digits in a base, continuing from the value of the digits read so far. -/
def readDigits (base acc : Nat) : List Char → Option Nat
  | [] => some acc
  | ch :: rest =>
    match digitValue ch with
    | some d => if d < base then readDigits base (acc * base + d) rest else none
    | none => none

/-- Decimal digits, at least one. -/
def readDecimal : List Char → Option Nat
  | [] => none
  | ds => readDigits 10 0 ds

/-- `<number>`: `0x` and hexadecimal digits, `0b` and binary digits, or decimal digits. R86 does not say which notations a
number of an assembler line takes: these three are the notations of 00_scope.md R10, and that the lines take them, and
hexadecimal digits in either case, is the model's choice (DESIGN CHOICE, notes/assumptions/16.md). -/
def readNat : List Char → Option Nat
  | [] => none
  | '0' :: 'x' :: d :: ds => readDigits 16 0 (d :: ds)
  | '0' :: 'b' :: d :: ds => readDigits 2 0 (d :: ds)
  | ds => readDigits 10 0 ds

/-- A number that `read` reads, perhaps after a minus sign. -/
def readSigned (read : List Char → Option Nat) : List Char → Option Int
  | '-' :: ds => (read ds).map fun n => -(n : Int)
  | ds => (read ds).map fun n => (n : Int)

/-- A register name `D0`..`D7`, `A0`..`A7`, as its number (10_state.md R22). -/
def readReg : List Char → Option RegNum
  | ['D', d] => (readDigits 8 0 [d]).map fun n => Fin.ofNat 16 n
  | ['A', d] => (readDigits 8 0 [d]).map fun n => Fin.ofNat 16 (8 + n)
  | _ => none

/-- `<src>`: `#<number>`, reduced modulo 2^32, or a register name (R86). -/
def readSrc : List Char → Option Src
  | '#' :: ds => (readSigned readNat ds).map immediate
  | name => (readReg name).map fun r => .reg (BitVec.ofNat 32 r.val)

/-- `<flag>`: one of `C V Z N X`, as its number 0 to 4 (R86). -/
def readFlag : List Char → Option Word
  | ['C'] => some 0
  | ['V'] => some 1
  | ['Z'] => some 2
  | ['N'] => some 3
  | ['X'] => some 4
  | _ => none

/-- `D<n>`: the counter of a decrement-and-branch command (R86). -/
def readDataReg : List Char → Option RegNum
  | 'D' :: ds => readReg ('D' :: ds)
  | _ => none

/-- `b<k>`: a buffer number (R86). A number of 2^32 or more does not fit the operand word, and R86 says nothing of it: it is
reduced modulo 2^32, as R86 does with an immediate (DESIGN CHOICE, notes/assumptions/16.md). -/
def readBuffer : List Char → Option Word
  | 'b' :: ds => (readNat ds).map (BitVec.ofNat 32)
  | _ => none

/-- Labels and the indices of the commands they name. -/
abbrev Labels := List (List Char × Nat)

/-- `<disp>`: a signed decimal count of commands, or a label: the label's index less the index of this command (R86). A
count outside 32 bits does not fit the operand word, and R86 says nothing of it: it is reduced modulo 2^32, as R86 does
with an immediate. A text that reads as a number is no label, and of labels of one name the first counts (DESIGN CHOICE,
notes/assumptions/16.md). -/
def readDisp (labels : Labels) (index : Nat) (text : List Char) : Option Word :=
  match readSigned readDecimal text with
  | some v => some (BitVec.ofInt 32 v)
  | none => (labels.lookup text).map fun target => BitVec.ofInt 32 ((target : Int) - index)

/-- A blank: a space or a tab. R86 does not say what stands between the parts of a line (DESIGN CHOICE,
notes/assumptions/16.md). -/
def isBlank (ch : Char) : Bool := ch == ' ' || ch == '\t'

/-- The text without blanks at either end. -/
def trimText (text : List Char) : List Char := ((text.dropWhile isBlank).reverse.dropWhile isBlank).reverse

/-- The text of a line before its comment, without blanks at either end (R86). -/
def commandText (line : List Char) : List Char := trimText (line.takeWhile (· != ';'))

/-- The text before the first `->`, and the text after it if there is one. -/
def splitArrow : List Char → List Char × Option (List Char)
  | [] => ([], none)
  | '-' :: '>' :: rest => ([], some rest)
  | ch :: rest => let (a, b) := splitArrow rest; (ch :: a, b)

/-- The decrement-and-branch mnemonics with their aliases (R80, R87). -/
def branchMnemonics : List (String × (RegNum → Word → Instr)) :=
  [("dbt", .dbt), ("dbra", .dbra), ("dbhi", .dbhi), ("dbls", .dbls), ("dbcc", .dbcc), ("dbcs", .dbcs), ("dbne", .dbne),
   ("dbeq", .dbeq), ("dbvc", .dbvc), ("dbvs", .dbvs), ("dbpl", .dbpl), ("dbmi", .dbmi), ("dbge", .dbge), ("dblt", .dblt),
   ("dbgt", .dbgt), ("dble", .dble), ("dbf", .dbf), ("dbhs", .dbhs), ("dblo", .dblo)]

/-- The mnemonics with two source operands and a destination (R86). -/
def binaryMnemonics : List (String × (Src → Src → Option RegNum → Instr)) :=
  [("radd", .radd), ("asr_w", .asrW), ("asr_l", .asrL), ("asl_w", .aslW), ("asl_l", .aslL), ("lsr_w", .lsrW),
   ("lsr_l", .lsrL), ("lsl_w", .lslW), ("lsl_l", .lslL), ("ror_w", .rorW), ("ror_l", .rorL), ("rol_w", .rolW),
   ("rol_l", .rolL)]

/-- The memory mnemonics (R86). -/
def memoryMnemonics : List (String × (Src → Src → Word → Option RegNum → Instr)) :=
  [("and_b", .andB), ("and_w", .andW), ("and_l", .andL), ("or_b", .orB), ("or_w", .orW), ("or_l", .orL)]

/-- The helper mnemonics (R86). -/
def helperMnemonics : List (String × (Src → Src → Src → Option RegNum → Instr)) :=
  [("offs", .offs), ("offs_hdr", .offsHdr)]

/-- The instruction of a mnemonic, its operands and its destination (R86, R87). -/
def readOperands (labels : Labels) (index : Nat) (name : String) (args : List (List Char)) (rd : Option RegNum) :
    Option Instr :=
  match branchMnemonics.lookup name, binaryMnemonics.lookup name, memoryMnemonics.lookup name,
    helperMnemonics.lookup name, args with
  | some mk, _, _, _, [k, d] =>
    match rd with
    | none => do some (mk (← readDataReg k) (← readDisp labels index d))
    | some _ => none
  | _, some mk, _, _, [a, b] => do some (mk (← readSrc a) (← readSrc b) rd)
  | _, _, some mk, _, [k, a, b] => do some (mk (← readSrc a) (← readSrc b) (← readBuffer k) rd)
  | _, _, _, some mk, [a, b, c] => do some (mk (← readSrc a) (← readSrc b) (← readSrc c) rd)
  | _, _, _, _, args =>
    match name, args, rd with
    | "rmov", [a], rd => do some (.rmov (← readSrc a) rd)
    | "flgget", [f], rd => do some (.flgget (← readFlag f) rd)
    | "flgset", [f, a], none => do some (.flgset (← readFlag f) (← readSrc a))
    | "regrd", [r], none => do some (.regrd (← readReg r))
    | "regwr", [r, a], none => do some (.regwr (← readReg r) (← readSrc a))
    | "regadd", [r, a], none => do some (.regadd (← readReg r) (← readSrc a))
    | _, _, _ => none

/-- The command of one assembler line at a command index: text after `;` is a comment (R86). A line with nothing but
blanks and a comment has no command. -/
def assembleLine (labels : Labels) (index : Nat) (line : List Char) : Option Instr :=
  let (body, dest) := splitArrow (commandText line)
  let name := body.takeWhile (!isBlank ·)
  let args := ((body.dropWhile (!isBlank ·)).splitOn ',').map trimText
  match dest with
  | none => readOperands labels index (String.ofList name) args none
  | some d =>
    match readReg (trimText d) with
    | some r => readOperands labels index (String.ofList name) args (some r)
    | none => none

/-- The records of a list of lines, the first command with the given index (R86, 45_host_sequencer.md R212). R86 says no
more of a line that is blank or holds only a comment than that the text after `;` is a comment: such a line gives no
record and takes no index (DESIGN CHOICE, notes/assumptions/16.md). -/
def assembleFrom (labels : Labels) (index : Nat) : List (List Char) → Option (List Record)
  | [] => some []
  | line :: rest =>
    if (commandText line).isEmpty then assembleFrom labels index rest
    else do
      let i ← assembleLine labels index line
      let rs ← assembleFrom labels (index + 1) rest
      some (encode i :: rs)

/-! ## Writing -/

/-- A hexadecimal digit. -/
def hexDigit (n : Nat) : Char := if n < 10 then Char.ofNat (48 + n) else Char.ofNat (55 + n)

/-- Eight hexadecimal digits. -/
def hexWord (w : Word) : List Char := (List.range 8).map fun i => hexDigit (w.extractLsb' (4 * (7 - i)) 4).toNat

/-- The text of a stored record: four groups of eight hexadecimal digits (R85). -/
def recordText (r : Record) : List Char :=
  hexWord r.cw ++ [' '] ++ hexWord r.op1 ++ [' '] ++ hexWord r.op2 ++ [' '] ++ hexWord r.op3

/-- A register's name (10_state.md R22). -/
def regText (r : RegNum) : List Char :=
  if r.val < 8 then ['D', hexDigit r.val] else ['A', hexDigit (r.val - 8)]

/-- An operand (R86); a number that names no register has no form in R86 and is written as a question mark. -/
def srcText : Src → List Char
  | .imm v => ['#', '0', 'x'] ++ hexWord v
  | .reg n => if h : n.toNat < 16 then regText ⟨n.toNat, h⟩ else ['?']

/-- A flag's name (R86). -/
def flagText (n : Word) : List Char :=
  match n.toNat with
  | 0 => ['C']
  | 1 => ['V']
  | 2 => ['Z']
  | 3 => ['N']
  | 4 => ['X']
  | _ => ['?']

/-- The counter of a decrement-and-branch command; an address register has no form in R86 here. -/
def counterText (r : RegNum) : List Char := if r.val < 8 then regText r else ['?']

/-- A displacement: a signed decimal number of commands (R86). -/
def dispText (d : Word) : List Char :=
  if d.toInt < 0 then '-' :: Nat.toDigits 10 d.toInt.natAbs else Nat.toDigits 10 d.toInt.natAbs

/-- The operands of an instruction in the order of R86. -/
def operandTexts : Instr → List (List Char)
  | .rmov a _ => [srcText a]
  | .radd a b _ => [srcText a, srcText b]
  | .flgget f _ => [flagText f]
  | .flgset f a => [flagText f, srcText a]
  | .dbt k d | .dbra k d | .dbhi k d | .dbls k d | .dbcc k d | .dbcs k d | .dbne k d | .dbeq k d
  | .dbvc k d | .dbvs k d | .dbpl k d | .dbmi k d | .dbge k d | .dblt k d | .dbgt k d | .dble k d =>
    [counterText k, dispText d]
  | .orB a v b _ | .orW a v b _ | .orL a v b _ | .andB a v b _ | .andW a v b _ | .andL a v b _ =>
    [['b', '0', 'x'] ++ hexWord b, srcText a, srcText v]
  | .offs s x y _ | .offsHdr s x y _ => [srcText s, srcText x, srcText y]
  | .asrW v k _ | .asrL v k _ | .aslW v k _ | .aslL v k _ | .lsrW v k _ | .lsrL v k _
  | .lslW v k _ | .lslL v k _ | .rorW v k _ | .rorL v k _ | .rolW v k _ | .rolL v k _ =>
    [srcText v, srcText k]

/-- The write-back destination of an instruction, if it has one (R77). -/
def destination : Instr → Option RegNum
  | .rmov _ rd | .radd _ _ rd | .flgget _ rd => rd
  | .flgset _ _ => none
  | .dbt _ _ | .dbra _ _ | .dbhi _ _ | .dbls _ _ | .dbcc _ _ | .dbcs _ _ | .dbne _ _ | .dbeq _ _
  | .dbvc _ _ | .dbvs _ _ | .dbpl _ _ | .dbmi _ _ | .dbge _ _ | .dblt _ _ | .dbgt _ _ | .dble _ _ => none
  | .orB _ _ _ rd | .orW _ _ _ rd | .orL _ _ _ rd | .andB _ _ _ rd | .andW _ _ _ rd | .andL _ _ _ rd => rd
  | .offs _ _ _ rd | .offsHdr _ _ _ rd => rd
  | .asrW _ _ rd | .asrL _ _ rd | .aslW _ _ rd | .aslL _ _ rd | .lsrW _ _ rd | .lsrL _ _ rd
  | .lslW _ _ rd | .lslL _ _ rd | .rorW _ _ rd | .rorL _ _ rd | .rolW _ _ rd | .rolL _ _ rd => rd

/-- An instruction as an assembler line (R86). -/
def instrText (i : Instr) : List Char :=
  i.mnemonic.toList ++ [' '] ++ [',', ' '].intercalate (operandTexts i) ++
    match destination i with
    | none => []
    | some r => [' ', '-', '>', ' '] ++ regText r

end Sys2Proof.Machine
end

