-- ==== Sys2Proof/Safety.lean ====
section
/-! DEFINITION. What claims about the machine are stated in: the invariant of its states, what counts as a safe run, the
opcode table as data, and the descriptions of the rules that several statements share. Each is written from the spec's
own words and raw bits, not over the operations of Machine/. -/

namespace Sys2Proof.Safety

open Sys2Proof.Machine

/-! ## Runs -/

/-- The invariant of the machine's states: memory is in canonical form within the limits of `NBUF`
(20_memory.md R52); `FCODE` is 0 while `FAULT` is 0 and one of the five codes while it is 1 (10_state.md R35, 60_exceptions.md
R233); the response outputs fit together (30_encoding.md R73, 43_decrement_branch.md R173). -/
def Invariant (s : State) : Prop :=
  s.mem.wf = true ∧
  (s.fault = false → s.fcode = 0) ∧
  (s.fault = true → 1 ≤ s.fcode.toNat ∧ s.fcode.toNat ≤ 5) ∧
  (s.rsp.err = true → s.rsp.res = 0 ∧ s.rsp.br = false ∧ s.rsp.skip = false) ∧
  (s.rsp.skip = true → s.rsp.res = 0 ∧ s.rsp.br = false) ∧
  (s.rsp.br = true → s.rsp.res = 1)

/-- A run of `k` steps is safe when each answers a next state and `FAULT` stays 0 (60_exceptions.md R237). -/
def SafeRun : Nat → State → Prop
  | 0, s => s.fault = false
  | k + 1, s => s.fault = false ∧ ∃ t, step s = .next t ∧ SafeRun k t

/-- The same command executed `k` times. -/
def execTimes (i : Instr) : Nat → State → Host.Outcome State Fault Refusal
  | 0, s => .next s
  | k + 1, s =>
    match exec i s with
    | .next t => execTimes i k t
    | .fault f => .fault f
    | .refused f => .refused f

/-! ## Responses and completed commands -/

/-- The registers after the write-back of a result: all 32 bits of the destination, or none (30_encoding.md R77). -/
def writtenBack (s : State) (rd : Option RegNum) (res : Word) : Vector Word 16 :=
  match rd with
  | none => s.regs
  | some r => s.regs.set r.val res r.isLt

/-- The state after a command that wrote its result and these flags, and nothing else. -/
def completedWith (s : State) (rd : Option RegNum) (res : Word) (flags : Flags) : State :=
  { s with regs := writtenBack s rd res, flags := flags, rsp := ⟨true, res, false, false, false⟩ }

/-- The state after `IllegalCommand` with a cause code: the latch and the response, and nothing else (60_exceptions.md R232). -/
def faultedWith (s : State) (code : BitVec 3) : State :=
  { s with fault := true, fcode := code, rsp := ⟨true, 0, false, false, true⟩ }

/-! ## The opcode table (spec/opcode_table.json) -/

/-- Each row's mnemonic, match and mask. -/
def opcodeRows : List (String × Word × Word) :=
  [("rmov", 0x10000000, 0xFFD83FFF),
   ("radd", 0x12000000, 0xFFC83FFF),
   ("flgget", 0x14000000, 0xFFF83FFF),
   ("flgset", 0x15000000, 0xFFEC3FFF),
   ("dbt", 0x50000000, 0xFFFC3FFF),
   ("dbra", 0x51000000, 0xFFFC3FFF),
   ("dbhi", 0x52000000, 0xFFFC3FFF),
   ("dbls", 0x53000000, 0xFFFC3FFF),
   ("dbcc", 0x54000000, 0xFFFC3FFF),
   ("dbcs", 0x55000000, 0xFFFC3FFF),
   ("dbne", 0x56000000, 0xFFFC3FFF),
   ("dbeq", 0x57000000, 0xFFFC3FFF),
   ("dbvc", 0x58000000, 0xFFFC3FFF),
   ("dbvs", 0x59000000, 0xFFFC3FFF),
   ("dbpl", 0x5A000000, 0xFFFC3FFF),
   ("dbmi", 0x5B000000, 0xFFFC3FFF),
   ("dbge", 0x5C000000, 0xFFFC3FFF),
   ("dblt", 0x5D000000, 0xFFFC3FFF),
   ("dbgt", 0x5E000000, 0xFFFC3FFF),
   ("dble", 0x5F000000, 0xFFFC3FFF),
   ("or_b", 0x80000000, 0xFFC83FFF),
   ("or_w", 0x80400000, 0xFFC83FFF),
   ("or_l", 0x80800000, 0xFFC83FFF),
   ("and_b", 0xC0000000, 0xFFC83FFF),
   ("and_w", 0xC0400000, 0xFFC83FFF),
   ("and_l", 0xC0800000, 0xFFC83FFF),
   ("offs", 0xA0000000, 0xFFC03FFF),
   ("offs_hdr", 0xA1000000, 0xFFC03FFF),
   ("asr_w", 0xE0400000, 0xFFC83FFF),
   ("asr_l", 0xE0800000, 0xFFC83FFF),
   ("asl_w", 0xE1400000, 0xFFC83FFF),
   ("asl_l", 0xE1800000, 0xFFC83FFF),
   ("lsr_w", 0xE2400000, 0xFFC83FFF),
   ("lsr_l", 0xE2800000, 0xFFC83FFF),
   ("lsl_w", 0xE3400000, 0xFFC83FFF),
   ("lsl_l", 0xE3800000, 0xFFC83FFF),
   ("ror_w", 0xE6400000, 0xFFC83FFF),
   ("ror_l", 0xE6800000, 0xFFC83FFF),
   ("rol_w", 0xE7400000, 0xFFC83FFF),
   ("rol_l", 0xE7800000, 0xFFC83FFF)]

/-- The thirty assigned opcode bytes (30_encoding.md R80). -/
def assignedOpcodes : List Nat :=
  [0x10, 0x12, 0x14, 0x15, 0x50, 0x51, 0x52, 0x53, 0x54, 0x55, 0x56, 0x57, 0x58, 0x59, 0x5A, 0x5B, 0x5C, 0x5D, 0x5E, 0x5F,
   0x80, 0xA0, 0xA1, 0xC0, 0xE0, 0xE1, 0xE2, 0xE3, 0xE6, 0xE7]

/-- `CW[31:24]` as a number. -/
def opcodeByte (r : Record) : Nat := r.cw.toNat / 2 ^ 24

/-- `CW[31:22]` as a number: opcode and size. -/
def opcodeAndSize (w : Word) : Nat := w.toNat / 2 ^ 22

/-- Some row of the table has the record's opcode and size. -/
def sizeListed (r : Record) : Bool := opcodeRows.any fun row => opcodeAndSize row.2.1 == opcodeAndSize r.cw

/-- Some row of the table matches the record's control word. -/
def rowMatches (r : Record) : Bool := opcodeRows.any fun row => r.cw &&& row.2.2 == row.2.1

/-- Check 4 of 30_encoding.md R82 on the raw record: a register-sourced operand above 15, a `db<cc>` whose counter is an
address register, a flag number above 4. -/
def namesMissing (r : Record) : Bool :=
  (r.cw.getLsbD 21 && decide (15 < r.op1.toNat)) || (r.cw.getLsbD 20 && decide (15 < r.op2.toNat)) ||
  (r.cw.getLsbD 19 && decide (15 < r.op3.toNat)) ||
  (decide (opcodeByte r / 16 = 5) && r.cw.getLsbD 17) ||
  (decide (opcodeByte r = 0x14 ∨ opcodeByte r = 0x15) && decide (4 < r.op1.toNat))

/-- The cause code of the first check of 30_encoding.md R82 that a record fails, from the raw record and `NBUF`. -/
def firstFailure (nbuf : Nat) (r : Record) : Option (BitVec 3) :=
  if opcodeByte r ∉ assignedOpcodes then some 1
  else if !sizeListed r then some 2
  else if !rowMatches r then some 3
  else if namesMissing r then some 4
  else if (opcodeByte r = 0x80 ∨ opcodeByte r = 0xC0) ∧ nbuf ≤ r.op3.toNat then some 5
  else none

/-! ## What the rules of a family say -/

/-- A shift or rotate of width W: for readable operands and `FAULT` = 0 it answers the result whose bit `i` below W is
`bit op1 e i` and whose bits from W up are 0, with the effective count `e = op2 mod W`; `N` and `Z` from the result, `V` from
`overflow`, `C` from `carry` or 0 when e = 0, `X` as `C` when it is a shift and e is not 0 and otherwise unchanged; and
nothing else changes (41_shift_rotate.md R120 to R124). -/
def ShiftMeets (width : Nat) (mk : Src → Src → Option RegNum → Instr) (writesX : Bool)
    (bit : Word → Nat → Nat → Bool) (carry overflow : Word → Nat → Bool) : Prop :=
  ∀ (value count : Src) (rd : Option RegNum) (s : State) (op1 op2 : Word),
    s.fault = false → resolve s value = .ok op1 → resolve s count = .ok op2 →
    ∃ res : Word,
      (∀ i, res.getLsbD i = (decide (i < width) && bit op1 (op2.toNat % width) i)) ∧
      exec (mk value count rd) s = .next (completedWith s rd res
        { x := if writesX = true ∧ op2.toNat % width ≠ 0 then carry op1 (op2.toNat % width) else s.flags.x
          n := res.getLsbD (width - 1)
          z := decide (res = 0)
          v := overflow op1 (op2.toNat % width)
          c := if op2.toNat % width = 0 then false else carry op1 (op2.toNat % width) })

/-- The top e + 1 of the W bits of a value are not all equal (41_shift_rotate.md R127). -/
def topBitsDiffer (width : Nat) (v : Word) (e : Nat) : Bool :=
  (List.range (e + 1)).any fun j => v.getLsbD (width - 1 - j) != v.getLsbD (width - 1)

/-- A performed AND or OR of `n` bytes: for readable operands, an attached buffer, an access that `EDGE_RULE` does not skip
and `FAULT` = 0, the result's bits combine the stored big-endian value with the low bits of the mask, the `n` bytes at the
offset hold the result most significant byte first, every other byte of every buffer reads as before, `N` and `Z` come
from the result, `V` and `C` are 0, `X` is unchanged, and nothing else changes (42_logical_memory.md R152, R153). -/
def LogicMeets (n : Nat) (mk : Src → Src → Word → Option RegNum → Instr) (op : Bool → Bool → Bool) : Prop :=
  ∀ (offset value : Src) (b : Word) (rd : Option RegNum) (s : State) (op1 op2 : Word) (len : Nat),
    s.fault = false → resolve s offset = .ok op1 → resolve s value = .ok op2 →
    s.mem.bufLen b.toNat = some len → s.edgeRule.skips op1.toInt n len = false →
    ∃ (m : Memory) (res : Word),
      (∀ i, res.getLsbD i = (decide (i < 8 * n) &&
        op (((s.mem.byteAt b.toNat (op1.toInt.toNat + (n - 1 - i / 8))).getD 0).getLsbD (i % 8)) (op2.getLsbD i))) ∧
      (∀ j, j < n → m.byteAt b.toNat (op1.toInt.toNat + j) = some (res.extractLsb' (8 * (n - 1 - j)) 8)) ∧
      (∀ b' a, (b' ≠ b.toNat ∨ a < op1.toInt.toNat ∨ op1.toInt.toNat + n ≤ a) → m.byteAt b' a = s.mem.byteAt b' a) ∧
      exec (mk offset value b rd) s = .next { completedWith s rd res
        { x := s.flags.x, n := res.getLsbD (8 * n - 1), z := decide (res = 0), v := false, c := false } with mem := m }

/-- A skipped AND or OR of `n` bytes: nothing changes but the response, which says so (20_memory.md R59, R60). -/
def LogicSkips (n : Nat) (mk : Src → Src → Word → Option RegNum → Instr) : Prop :=
  ∀ (offset value : Src) (b : Word) (rd : Option RegNum) (s : State) (op1 op2 : Word) (len : Nat),
    s.fault = false → resolve s offset = .ok op1 → resolve s value = .ok op2 →
    s.mem.bufLen b.toNat = some len → s.edgeRule.skips op1.toInt n len = true →
    exec (mk offset value b rd) s = .next { s with rsp := ⟨true, 0, false, true, false⟩ }

/-- The low 16 bits of a register as a number. -/
def counterValue (s : State) (d : RegNum) : Nat := (s.regs.get d).toNat % 65536

/-- A register with the low 16 bits replaced, bits 31 to 16 kept. -/
def withCounter (s : State) (d : RegNum) (c : Nat) : Word :=
  BitVec.ofNat 32 ((s.regs.get d).toNat / 65536 * 65536 + c)

/-- A decrement-and-branch command with the given condition, for a data register as counter and `FAULT` = 0: while the
condition holds the loop is over and nothing but the response changes; otherwise the low half is decremented modulo 2^16,
and the loop goes on unless the counter was 0; no flag and nothing else changes (43_decrement_branch.md R173, R192). -/
def DecBranchMeets (mk : RegNum → Word → Instr) (cond : Flags → Prop) : Prop :=
  ∀ (d : RegNum) (disp : Word) (s : State), s.fault = false → d.val ≤ 7 →
    (cond s.flags → exec (mk d disp) s = .next { s with rsp := ⟨true, 0, false, false, false⟩ }) ∧
    (¬ cond s.flags → exec (mk d disp) s = .next
      { s with
        regs := s.regs.set d.val (withCounter s d ((counterValue s d + 65535) % 65536)) d.isLt
        rsp := ⟨true, if counterValue s d = 0 then 0 else 1, decide (counterValue s d ≠ 0), false, false⟩ })

/-- A helper with the given header rows: for readable operands and `FAULT` = 0 the result is the exact integer
`(y + header) * stride + floor(x / 8)` reduced modulo 2^32, and no flag and nothing else changes (44_addressing_helpers.md
R200). -/
def OffsetMeets (mk : Src → Src → Src → Option RegNum → Instr) (header : State → Int) : Prop :=
  ∀ (stride x y : Src) (rd : Option RegNum) (s : State) (op1 op2 op3 : Word),
    s.fault = false → resolve s stride = .ok op1 → resolve s x = .ok op2 → resolve s y = .ok op3 →
    ∃ (res : Word) (q : Int),
      8 * q ≤ op2.toInt ∧ op2.toInt < 8 * q + 8 ∧
      (res.toNat : Int) = ((op3.toInt + header s) * op1.toInt + q) % 2 ^ 32 ∧
      exec (mk stride x y rd) s = .next (completedWith s rd res s.flags)

/-! ## Classes of commands -/

/-- The six commands of format M (20_memory.md R61). -/
def isMemoryCommand : Instr → Bool
  | .orB _ _ _ _ | .orW _ _ _ _ | .orL _ _ _ _ | .andB _ _ _ _ | .andW _ _ _ _ | .andL _ _ _ _ => true
  | .rmov _ _ | .radd _ _ _ | .flgget _ _ | .flgset _ _ => false
  | .dbt _ _ | .dbra _ _ | .dbhi _ _ | .dbls _ _ | .dbcc _ _ | .dbcs _ _ | .dbne _ _ | .dbeq _ _ => false
  | .dbvc _ _ | .dbvs _ _ | .dbpl _ _ | .dbmi _ _ | .dbge _ _ | .dblt _ _ | .dbgt _ _ | .dble _ _ => false
  | .offs _ _ _ _ | .offsHdr _ _ _ _ => false
  | .asrW _ _ _ | .asrL _ _ _ | .aslW _ _ _ | .aslL _ _ _ | .lsrW _ _ _ | .lsrL _ _ _ => false
  | .lslW _ _ _ | .lslL _ _ _ | .rorW _ _ _ | .rorL _ _ _ | .rolW _ _ _ | .rolL _ _ _ => false

/-- The sixteen commands of format B (43_decrement_branch.md). -/
def isDecBranchCommand : Instr → Bool
  | .dbt _ _ | .dbra _ _ | .dbhi _ _ | .dbls _ _ | .dbcc _ _ | .dbcs _ _ | .dbne _ _ | .dbeq _ _ => true
  | .dbvc _ _ | .dbvs _ _ | .dbpl _ _ | .dbmi _ _ | .dbge _ _ | .dblt _ _ | .dbgt _ _ | .dble _ _ => true
  | .orB _ _ _ _ | .orW _ _ _ _ | .orL _ _ _ _ | .andB _ _ _ _ | .andW _ _ _ _ | .andL _ _ _ _ => false
  | .rmov _ _ | .radd _ _ _ | .flgget _ _ | .flgset _ _ => false
  | .offs _ _ _ _ | .offsHdr _ _ _ _ => false
  | .asrW _ _ _ | .asrL _ _ _ | .aslW _ _ _ | .aslL _ _ _ | .lsrW _ _ _ | .lsrL _ _ _ => false
  | .lslW _ _ _ | .lslL _ _ _ | .rorW _ _ _ | .rorL _ _ _ | .rolW _ _ _ | .rolL _ _ _ => false

/-- The width of a command's result in bits: 8 for a byte-width command, 16 for a word-width one (30_encoding.md R73). -/
def resultWidth : Instr → Nat
  | .orB _ _ _ _ | .andB _ _ _ _ => 8
  | .orW _ _ _ _ | .andW _ _ _ _ => 16
  | .asrW _ _ _ | .aslW _ _ _ | .lsrW _ _ _ | .lslW _ _ _ | .rorW _ _ _ | .rolW _ _ _ => 16
  | .orL _ _ _ _ | .andL _ _ _ _ => 32
  | .asrL _ _ _ | .aslL _ _ _ | .lsrL _ _ _ | .lslL _ _ _ | .rorL _ _ _ | .rolL _ _ _ => 32
  | .rmov _ _ | .radd _ _ _ | .flgget _ _ | .flgset _ _ => 32
  | .dbt _ _ | .dbra _ _ | .dbhi _ _ | .dbls _ _ | .dbcc _ _ | .dbcs _ _ | .dbne _ _ | .dbeq _ _ => 32
  | .dbvc _ _ | .dbvs _ _ | .dbpl _ _ | .dbmi _ _ | .dbge _ _ | .dblt _ _ | .dbgt _ _ | .dble _ _ => 32
  | .offs _ _ _ _ | .offsHdr _ _ _ _ => 32

/-- `flgget`, the one command that reads `X` (10_state.md R30). -/
def isFlagRead (i : Instr) : Bool := i.mnemonic == "flgget"

end Sys2Proof.Safety
end

