-- ==== Sys2Proof/Certificates/Slice0/Obligations.lean ====
section
/-! DEFINITION. What is to be proved of the machine, stated from the numbered rules of spec/. -/

open Sys2Proof Sys2Proof.Machine Sys2Proof.Safety

/-! ## Encoding -/

/-- Records written out in the spec (30_encoding.md R80, 40 R101 to R105, 43 R175, 44 R201, 95 V-SR, V-LM) decode to the
commands they stand for. -/
def Obligations.SpecRecordsDecode : Prop :=
  decode ⟨0x1004C000, 0x00000005, 0, 0⟩ = .ok (.rmov (.imm 5) (some 3)) ∧
  decode ⟨0x12260000, 0x00000008, 0x00000008, 0⟩ = .ok (.radd (.reg 8) (.imm 8) (some 8)) ∧
  decode ⟨0x15000000, 0x00000000, 0x00000001, 0⟩ = .ok (.flgset 0 (.imm 1)) ∧
  decode ⟨0x5100C000, 0xFFFFFFFE, 0, 0⟩ = .ok (.dbra 3 0xFFFFFFFE) ∧
  decode ⟨0xA0060000, 0x00000008, 0x0000000A, 0x00000002⟩ = .ok (.offs (.imm 8) (.imm 10) (.imm 2) (some 8)) ∧
  decode ⟨0xE0A6C000, 0x00000002, 0x0000001F, 0⟩ = .ok (.asrL (.reg 2) (.imm 31) (some 11)) ∧
  decode ⟨0xC0B00000, 0x00000008, 0x00000001, 0⟩ = .ok (.andL (.reg 8) (.reg 1) 0 none) ∧
  decode ⟨0xE4400000, 0x00000001, 0x00000001, 0⟩ = .error .illegalOpcode

/-- Decoding the stored bytes of an encoded instruction gives the instruction back, with whatever bytes follow, for every
instruction and every operand value. -/
def Obligations.DecodeInvertsEncode : Prop :=
  ∀ (i : Instr) (rest : List Byte), decodeBytes ((encode i).toBytes ++ rest) = .ok (i, rest)

/-- A record decodes to an instruction of mnemonic `m` exactly when its control word matches a row `m` of the opcode table
under that row's mask; and no two rows match the same control word. -/
def Obligations.DecodeAcceptsExactlyTheTable : Prop :=
  (∀ (r : Record) (m : String),
    (∃ i, decode r = .ok i ∧ i.mnemonic = m) ↔ ∃ row ∈ opcodeRows, row.1 = m ∧ r.cw &&& row.2.2 = row.2.1) ∧
  (∀ cw : Word, ∀ row ∈ opcodeRows, ∀ row' ∈ opcodeRows,
    cw &&& row.2.2 = row.2.1 → cw &&& row'.2.2 = row'.2.1 → row = row')

/-- Which of the first three checks of decoding fails first, from the raw control word: the opcode is not assigned; the
opcode is assigned and no row has its size; a row has opcode and size and none matches the whole control word. The last
two clauses, that decoding itself never answers the causes of checks 4 and 5, are the model's choice: those two
checks are made when the command is executed (DEDUCED, notes/assumptions/10.md). -/
def Obligations.DecodeChecksInOrder : Prop :=
  ∀ r : Record,
    (decode r = .error .illegalOpcode ↔ opcodeByte r ∉ assignedOpcodes) ∧
    (decode r = .error .illegalSize ↔ opcodeByte r ∈ assignedOpcodes ∧ sizeListed r = false) ∧
    (decode r = .error .illegalField ↔ sizeListed r = true ∧ rowMatches r = false) ∧
    decode r ≠ .error .badRegister ∧ decode r ≠ .error .badBuffer

/-- The encoder keeps every bit of a legal control word that has a meaning: opcode, size, `S1`, `S2`, `S3` and `WB` always,
`RD` whenever it names a destination or a counter. -/
def Obligations.EncodeKeepsControlBits : Prop :=
  ∀ (r : Record) (i : Instr), decode r = .ok i →
    (encode i).cw.extractLsb' 18 14 = r.cw.extractLsb' 18 14 ∧
    ((r.cw.getLsbD 18 = true ∨ opcodeByte r / 16 = 5) →
      (encode i).cw.extractLsb' 14 4 = r.cw.extractLsb' 14 4)

/-- An operand word a command does not use is ignored whatever it holds: `OP2` and `OP3` of `rmov`-, `flgget`- and `db<cc>`-
format records, `OP3` of `radd`, `flgset` and the shifts and rotates. -/
def Obligations.UnusedOperandWordsIgnored : Prop :=
  ∀ (cw op1 op2 op3 op2' op3' : Word),
    ((cw.toNat / 2 ^ 28 = 5 ∨ cw.toNat / 2 ^ 24 = 0x10 ∨ cw.toNat / 2 ^ 24 = 0x14) →
      decode ⟨cw, op1, op2, op3⟩ = decode ⟨cw, op1, op2', op3'⟩) ∧
    ((cw.toNat / 2 ^ 28 = 0xE ∨ cw.toNat / 2 ^ 24 = 0x12 ∨ cw.toNat / 2 ^ 24 = 0x15) →
      decode ⟨cw, op1, op2, op3⟩ = decode ⟨cw, op1, op2, op3'⟩)

/-- The bytes of a program give the program back, with whatever bytes follow. -/
def Obligations.StoredProgramReadsBack : Prop :=
  ∀ (p : List Record) (rest : List Byte), programOfBytes p.length (programBytes p ++ rest) = some p

/-- Lines in the assembler syntax are read as the commands they name, with a label's distance, an alias and two
pseudo-instructions among them. -/
def Obligations.AssemblerReadsSpecLines : Prop :=
  assembleLine [] 0 "asr_l D2, #31 -> A3".toList = some (.asrL (.reg 2) (.imm 31) (some 11)) ∧
  assembleLine [] 4 "or_b  b0, A0, D0  ; buffer".toList = some (.orB (.reg 8) (.reg 0) 0 none) ∧
  assembleLine [("loop".toList, 2)] 4 "dbf D3, loop".toList = some (.dbra 3 0xFFFFFFFE) ∧
  assembleLine [] 0 "regwr A0, #-1".toList = some (.rmov (.imm 0xFFFFFFFF) (some 8)) ∧
  assembleLine [] 0 "regadd A0, #-8".toList = some (.radd (.reg 8) (.imm 0xFFFFFFF8) (some 8)) ∧
  assembleLine [] 0 "flgset X, D1".toList = some (.flgset 4 (.reg 1))

/-! ## Operands -/

/-- Operand resolution: an immediate is its word, a register number up to 15 is that register's value, and a greater one
is `BAD_REGISTER`. -/
def Obligations.OperandResolution : Prop :=
  ∀ (s : State) (n : Word),
    resolve s (.imm n) = .ok n ∧
    (∀ r : RegNum, n.toNat = r.val → resolve s (.reg n) = .ok (s.regs.get r)) ∧
    (15 < n.toNat → resolve s (.reg n) = .error .badRegister)

/-! ## Register and flag access -/

/-- `rmov` answers its operand on `RES`, writes it to the destination if there is one, and changes nothing else. -/
def Obligations.RmovMovesItsOperand : Prop :=
  ∀ (src : Src) (rd : Option RegNum) (s : State) (op1 : Word),
    s.fault = false → resolve s src = .ok op1 → exec (.rmov src rd) s = .next (completedWith s rd op1 s.flags)

/-- `radd` answers the sum modulo 2^32, writes it to the destination if there is one, and changes no flag and nothing else. -/
def Obligations.RaddWrapsModulo : Prop :=
  ∀ (a b : Src) (rd : Option RegNum) (s : State) (op1 op2 : Word),
    s.fault = false → resolve s a = .ok op1 → resolve s b = .ok op2 →
    ∃ res : Word, res.toNat = (op1.toNat + op2.toNat) % 2 ^ 32 ∧
      exec (.radd a b rd) s = .next (completedWith s rd res s.flags)

/-- `flgget` of flag number `k` up to 4 answers bit `k` of `CCR`, and changes nothing but the destination. -/
def Obligations.FlggetReadsOneFlag : Prop :=
  ∀ (k : Word) (rd : Option RegNum) (s : State), s.fault = false → k.toNat ≤ 4 →
    exec (.flgget k rd) s = .next (completedWith s rd (if s.ccr.getLsbD k.toNat then 1 else 0) s.flags)

/-- `flgset` of flag number `k` up to 4 sets bit `k` of `CCR` to bit 0 of its operand, leaves the other four bits as they
are, answers `RES` = 0, and changes nothing else. -/
def Obligations.FlgsetWritesOneFlag : Prop :=
  ∀ (k : Word) (src : Src) (s : State) (op2 : Word), s.fault = false → k.toNat ≤ 4 → resolve s src = .ok op2 →
    ∃ f : Flags, (∀ j, j < 5 → f.toCcr.getLsbD j = if j = k.toNat then op2.getLsbD 0 else s.ccr.getLsbD j) ∧
      exec (.flgset k src) s = .next (completedWith s none 0 f)

/-! ## Shifts and rotates -/

/-- `asr_w` and `asr_l`: the sign bit enters at the top, Carry is the last bit shifted out, Overflow is 0. -/
def Obligations.AsrResultAndFlags : Prop :=
  ShiftMeets 16 .asrW true (fun v e i => v.getLsbD (min (i + e) 15)) (fun v e => v.getLsbD (e - 1)) (fun _ _ => false) ∧
  ShiftMeets 32 .asrL true (fun v e i => v.getLsbD (min (i + e) 31)) (fun v e => v.getLsbD (e - 1)) (fun _ _ => false)

/-- `asl_w` and `asl_l`: zeros enter at bit 0, Carry is the last bit shifted out of the top, Overflow is 1 when the top
e + 1 bits of the value are not all equal. -/
def Obligations.AslResultAndFlags : Prop :=
  ShiftMeets 16 .aslW true (fun v e i => decide (e ≤ i) && v.getLsbD (i - e)) (fun v e => v.getLsbD (16 - e))
    (topBitsDiffer 16) ∧
  ShiftMeets 32 .aslL true (fun v e i => decide (e ≤ i) && v.getLsbD (i - e)) (fun v e => v.getLsbD (32 - e))
    (topBitsDiffer 32)

/-- `lsr_w` and `lsr_l`: zeros enter at the top, Carry is the last bit shifted out, Overflow is 0. -/
def Obligations.LsrResultAndFlags : Prop :=
  ShiftMeets 16 .lsrW true (fun v e i => decide (i + e < 16) && v.getLsbD (i + e)) (fun v e => v.getLsbD (e - 1))
    (fun _ _ => false) ∧
  ShiftMeets 32 .lsrL true (fun v e i => decide (i + e < 32) && v.getLsbD (i + e)) (fun v e => v.getLsbD (e - 1))
    (fun _ _ => false)

/-- `lsl_w` and `lsl_l`: zeros enter at bit 0, Carry is the last bit shifted out of the top, Overflow is always 0. -/
def Obligations.LslResultAndFlags : Prop :=
  ShiftMeets 16 .lslW true (fun v e i => decide (e ≤ i) && v.getLsbD (i - e)) (fun v e => v.getLsbD (16 - e))
    (fun _ _ => false) ∧
  ShiftMeets 32 .lslL true (fun v e i => decide (e ≤ i) && v.getLsbD (i - e)) (fun v e => v.getLsbD (32 - e))
    (fun _ _ => false)

/-- `ror_w` and `ror_l`: bits rotated out of bit 0 enter at the top, Carry is the last of them, `X` is never written. -/
def Obligations.RorResultAndFlags : Prop :=
  ShiftMeets 16 .rorW false (fun v e i => v.getLsbD ((i + e) % 16)) (fun v e => v.getLsbD (e - 1)) (fun _ _ => false) ∧
  ShiftMeets 32 .rorL false (fun v e i => v.getLsbD ((i + e) % 32)) (fun v e => v.getLsbD (e - 1)) (fun _ _ => false)

/-- `rol_w` and `rol_l`: bits rotated out of the top enter at bit 0, Carry is the last of them, `X` is never written. -/
def Obligations.RolResultAndFlags : Prop :=
  ShiftMeets 16 .rolW false (fun v e i => v.getLsbD ((i + 16 - e) % 16)) (fun v e => v.getLsbD (16 - e))
    (fun _ _ => false) ∧
  ShiftMeets 32 .rolL false (fun v e i => v.getLsbD ((i + 32 - e) % 32)) (fun v e => v.getLsbD (32 - e))
    (fun _ _ => false)

/-- A count that is a multiple of the width is an effective count of 0 for all twelve commands: the result is the value's
low W bits, `C` and `V` are 0, `X` is unchanged, `N` and `Z` come from the result. -/
def Obligations.EffectiveCountZeroKeepsTheValue : Prop :=
  ∀ (value count : Src) (rd : Option RegNum) (s : State) (op1 op2 : Word),
    s.fault = false → resolve s value = .ok op1 → resolve s count = .ok op2 →
    (op2.toNat % 16 = 0 → ∀ mk ∈ [Instr.asrW, Instr.aslW, Instr.lsrW, Instr.lslW, Instr.rorW, Instr.rolW],
      exec (mk value count rd) s = .next (completedWith s rd (BitVec.ofNat 32 (op1.toNat % 2 ^ 16))
        { x := s.flags.x, n := decide (2 ^ 15 ≤ op1.toNat % 2 ^ 16), z := decide (op1.toNat % 2 ^ 16 = 0), v := false
          c := false })) ∧
    (op2.toNat % 32 = 0 → ∀ mk ∈ [Instr.asrL, Instr.aslL, Instr.lsrL, Instr.lslL, Instr.rorL, Instr.rolL],
      exec (mk value count rd) s = .next (completedWith s rd op1
        { x := s.flags.x, n := decide (2 ^ 31 ≤ op1.toNat), z := decide (op1.toNat = 0), v := false, c := false }))

/-- Rotation is invertible: a rotate one way into a register and the same rotate the other way from it leaves the value,
for every value of the width, every count, in both orders and at both widths. -/
def Obligations.RotationIsInvertible : Prop :=
  ∀ (v n : Word) (d : RegNum) (s : State), s.fault = false →
    (v.toNat < 2 ^ 16 →
      (∃ t u, exec (.rolW (.imm v) (.imm n) (some d)) s = .next t ∧
        exec (.rorW (.reg (BitVec.ofNat 32 d.val)) (.imm n) (some d)) t = .next u ∧ u.regs.get d = v) ∧
      (∃ t u, exec (.rorW (.imm v) (.imm n) (some d)) s = .next t ∧
        exec (.rolW (.reg (BitVec.ofNat 32 d.val)) (.imm n) (some d)) t = .next u ∧ u.regs.get d = v)) ∧
    (∃ t u, exec (.rolL (.imm v) (.imm n) (some d)) s = .next t ∧
      exec (.rorL (.reg (BitVec.ofNat 32 d.val)) (.imm n) (some d)) t = .next u ∧ u.regs.get d = v) ∧
    (∃ t u, exec (.rorL (.imm v) (.imm n) (some d)) s = .next t ∧
      exec (.rolL (.reg (BitVec.ofNat 32 d.val)) (.imm n) (some d)) t = .next u ∧ u.regs.get d = v)

/-- For a value whose top bit is 0 the arithmetic and the logical right shift give the same next state, at both widths. -/
def Obligations.RightShiftsAgreeOnTopBitZero : Prop :=
  ∀ (value count : Src) (rd : Option RegNum) (s : State) (op1 : Word), resolve s value = .ok op1 →
    (op1.getLsbD 15 = false → exec (.asrW value count rd) s = exec (.lsrW value count rd) s) ∧
    (op1.getLsbD 31 = false → exec (.asrL value count rd) s = exec (.lsrL value count rd) s)

/-! ## AND and OR on a buffer -/

/-- `EDGE_RULE` at its default skips an access exactly when it starts before the buffer or ends past it; and a rule may
move the threshold any number of bytes inward. That every rule skips an access outside the buffer is the model's
choice (DESIGN CHOICE, notes/assumptions/4.md). -/
def Obligations.EdgeRuleThreshold : Prop :=
  (∀ (off : Int) (n len : Nat), defaultEdgeRule.skips off n len = true ↔ off < 0 ∨ (len : Int) < off + n) ∧
  (∀ (off : Int) (n len margin : Nat),
    (EdgeRule.less .length (.add (.add .offset .width) (.const margin))).skips off n len = true ↔
      off < 0 ∨ (len : Int) < off + n + margin) ∧
  (∀ (r : EdgeRule) (off : Int) (n len : Nat), off < 0 ∨ (len : Int) < off + n → r.skips off n len = true)

/-- The parameter `EDGE_RULE` can be any predicate of the offset, the width and the length, on every access that lies inside a
buffer: for each there is a value of the parameter that skips exactly the accesses the predicate says. -/
def Obligations.EveryEdgePredicateIsARule : Prop :=
  ∀ p : Int → Nat → Nat → Bool, ∃ r : EdgeRule, ∀ (off : Int) (n len : Nat),
    0 ≤ off → off + n ≤ len → len < 2 ^ 31 → r.skips off n len = p off n len

/-- The six memory commands, performed, under every value of the parameter `EDGE_RULE` (notes/assumptions/4.md): result,
stored bytes, flags and frame. -/
def Obligations.LogicalCommandsPerformed : Prop :=
  LogicMeets 1 .andB and ∧ LogicMeets 2 .andW and ∧ LogicMeets 4 .andL and ∧
  LogicMeets 1 .orB or ∧ LogicMeets 2 .orW or ∧ LogicMeets 4 .orL or

/-- The six memory commands, skipped, under every value of the parameter `EDGE_RULE` (notes/assumptions/4.md): no state
changes, `SKIP` = 1. -/
def Obligations.LogicalCommandsSkipped : Prop :=
  LogicSkips 1 .andB ∧ LogicSkips 2 .andW ∧ LogicSkips 4 .andL ∧ LogicSkips 1 .orB ∧ LogicSkips 2 .orW ∧ LogicSkips 4 .orL

/-- Byte order: a long written inside a buffer reads back whole, its first byte is its most significant, and a word read
two bytes on, or one, is the corresponding part of it. -/
def Obligations.BigEndianMixedWidths : Prop :=
  ∀ (b : Buffer) (off : Nat) (v : Word), off + 4 ≤ b.len.val →
    (b.memWrite off 4 v).memRead off 4 = v ∧
    (b.memWrite off 4 v).memRead off 1 = (v.extractLsb' 24 8).setWidth 32 ∧
    (b.memWrite off 4 v).memRead (off + 2) 2 = (v.extractLsb' 0 16).setWidth 32 ∧
    (b.memWrite off 4 v).memRead (off + 1) 2 = (v.extractLsb' 8 16).setWidth 32

/-- A byte of a buffer reads as the value last written to it, and a write to one byte changes no other byte of any buffer;
that this holds of a write to a byte that does not exist is the model's choice (DESIGN CHOICE, notes/assumptions/13.md). -/
def Obligations.BufferBytesArePlainStorage : Prop :=
  ∀ (s : State) (b off : Nat) (v : Byte),
    (∀ w, s.hostRead b off = some w → (s.hostWrite b off v).hostRead b off = some v) ∧
    (∀ b' off', (b' ≠ b ∨ off' ≠ off) → (s.hostWrite b off v).hostRead b' off' = s.hostRead b' off')

/-- The host attaches buffers before the first command after reset and within the limits of `NBUF` and `BUFLEN`, and at no
other time (that it is the response output which tells is the model's reading, notes/assumptions/17.md); they then hold
the bytes it attached, with their lengths, in canonical form, and nothing else changes. -/
def Obligations.AttachedBuffersHoldTheirBytes : Prop :=
  ∀ (s : State) (contents : List (List Byte)),
    ((∃ t, s.attach contents = some t) ↔
      s.rsp.valid = false ∧ 1 ≤ contents.length ∧ contents.length ≤ 2 ^ 32 ∧
      ∀ bytes ∈ contents, bytes.length ≤ 2 ^ 31 - 1) ∧
    (∀ t, s.attach contents = some t →
      t = { s with mem := t.mem } ∧ t.mem.wf = true ∧
      (∀ b, t.mem.bufLen b = (contents[b]?).map List.length) ∧
      ∀ b off, t.hostRead b off = (contents[b]?).bind fun bytes => bytes[off]?)

/-- `NBUF` and every `BUFLEN` stay as they are from the first command to the next reset: no command presented, no step
and no host write changes them, an accepted command ends the time in which buffers can be attached, and no command, step
or host write brings it back. -/
def Obligations.BufferLengthsFixedUntilReset : Prop :=
  ∀ s : State,
    (∀ r t, s.present r = .next t →
      t.mem.buffers.map Buffer.len = s.mem.buffers.map Buffer.len ∧
      (s.cmdReady = true ∨ s.rsp.valid = true → ∀ contents, t.attach contents = none)) ∧
    (∀ t, step s = .next t →
      t.mem.buffers.map Buffer.len = s.mem.buffers.map Buffer.len ∧
      (s.rsp.valid = true → ∀ contents, t.attach contents = none)) ∧
    (∀ b off v,
      (s.hostWrite b off v).mem.buffers.map Buffer.len = s.mem.buffers.map Buffer.len ∧
      (s.rsp.valid = true → ∀ contents, (s.hostWrite b off v).attach contents = none))

/-! ## Decrement and branch -/

/-- All sixteen decrement-and-branch commands, each with its condition of the flags `N`, `Z`, `V`, `C`. -/
def Obligations.DecBranchCommandsFollowTheirConditions : Prop :=
  DecBranchMeets .dbt (fun _ => True) ∧ DecBranchMeets .dbra (fun _ => False) ∧
  DecBranchMeets .dbhi (fun f => f.c = false ∧ f.z = false) ∧ DecBranchMeets .dbls (fun f => f.c = true ∨ f.z = true) ∧
  DecBranchMeets .dbcc (fun f => f.c = false) ∧ DecBranchMeets .dbcs (fun f => f.c = true) ∧
  DecBranchMeets .dbne (fun f => f.z = false) ∧ DecBranchMeets .dbeq (fun f => f.z = true) ∧
  DecBranchMeets .dbvc (fun f => f.v = false) ∧ DecBranchMeets .dbvs (fun f => f.v = true) ∧
  DecBranchMeets .dbpl (fun f => f.n = false) ∧ DecBranchMeets .dbmi (fun f => f.n = true) ∧
  DecBranchMeets .dbge (fun f => f.n = f.v) ∧ DecBranchMeets .dblt (fun f => f.n ≠ f.v) ∧
  DecBranchMeets .dbgt (fun f => f.z = false ∧ f.n = f.v) ∧ DecBranchMeets .dble (fun f => f.z = true ∨ f.n ≠ f.v)

/-- `dbra` on a counter of `k` answers "loop again" `k` times and "loop terminated" the next time, with the counter at
0xFFFF; along the way the counter counts down and nothing but it and the response changes. -/
def Obligations.DbraAnswersCounterPlusOneTimes : Prop :=
  ∀ (d : RegNum) (disp : Word) (s : State), s.fault = false → d.val ≤ 7 →
    (∀ j, 1 ≤ j → j ≤ counterValue s d →
      execTimes (.dbra d disp) j s = .next
        { s with regs := s.regs.set d.val (withCounter s d (counterValue s d - j)) d.isLt, rsp := ⟨true, 1, true, false, false⟩ }) ∧
    execTimes (.dbra d disp) (counterValue s d + 1) s = .next
      { s with regs := s.regs.set d.val (withCounter s d 0xFFFF) d.isLt, rsp := ⟨true, 0, false, false, false⟩ }

/-! ## Addressing helpers -/

/-- `offs` and `offs_hdr`: exact signed arithmetic with a floor division, reduced modulo 2^32, for every value of the
header parameter. -/
def Obligations.HelpersComputeByteOffsets : Prop :=
  OffsetMeets .offs (fun _ => 0) ∧ OffsetMeets .offsHdr (fun s => s.hdrRows.toInt)

/-! ## Faults -/

/-- A record presented to a ready core with `FAULT` = 0 raises `IllegalCommand` with the code of the first check it fails,
changing nothing but the latch and the response; a record that fails none is executed without a fault. -/
def Obligations.FaultExactlyWhenACheckFails : Prop :=
  ∀ (s : State) (r : Record), s.cmdReady = true → s.fault = false →
    (∀ code, firstFailure s.mem.buffers.length r = some code → s.present r = .next (faultedWith s code)) ∧
    (firstFailure s.mem.buffers.length r = none →
      ∃ t, s.present r = .next t ∧ t.fault = false ∧ t.fcode = s.fcode ∧ t.rsp.valid = true ∧ t.rsp.err = false)

/-- An instruction that names a register or a flag that does not exist raises `BAD_REGISTER`, changing nothing but the
latch and the response. -/
def Obligations.MissingNamesRaiseBadRegister : Prop :=
  ∀ (i : Instr) (s : State), s.fault = false → i.wellFormed = false → exec i s = .next (faultedWith s 4)

/-- While `FAULT` = 1 every record presented, and every instruction, is answered `ERR` = 1 with zero on the other outputs,
and changes no other state; `FCODE` keeps the code of the first fault. -/
def Obligations.FaultedCoreAnswersError : Prop :=
  ∀ s : State, s.fault = true →
    (∀ r, s.cmdReady = true → s.present r = .next { s with rsp := ⟨true, 0, false, false, true⟩ }) ∧
    (∀ i, exec i s = .next { s with rsp := ⟨true, 0, false, false, true⟩ })

/-- Whether a record faults, and with which code, depends on the record and `NBUF` alone: two cores that differ in
anything else give the same verdict. -/
def Obligations.FaultDependsOnRecordAndNbufOnly : Prop :=
  ∀ (s s' t t' : State) (r : Record),
    s.cmdReady = true → s'.cmdReady = true → s.fault = false → s'.fault = false →
    s.mem.buffers.length = s'.mem.buffers.length → s.present r = .next t → s'.present r = .next t' →
    t.fault = t'.fault ∧ (t.fault = true → t.fcode = t'.fcode) ∧ t.rsp.err = t'.rsp.err

/-- `RST` asserted puts the core's state at its reset values (the flags at the parameter `FLAG_RESET`) and withholds
`CMD_READY`, `RST` released gives `CMD_READY`; the buffers and the parameters are not changed. That the host's program and
`cpc` are kept over `RST` too is the model's choice for the host (DEDUCED from 10_state.md R27, notes/assumptions/12.md). -/
def Obligations.ResetPortGivesResetValues : Prop :=
  ∀ s : State,
    (∀ r : RegNum, s.assertReset.regs.get r = 0) ∧
    s.assertReset = { s with
      regs := s.assertReset.regs, flags := s.flagReset, fault := false, fcode := 0
      rsp := ⟨false, 0, false, false, false⟩, cmdReady := false } ∧
    s.pulseReset = { s.assertReset with cmdReady := true }

/-! ## Reset and seeding -/

/-- Every general register is zero in the machine's state after reset, and reading it as an operand gives 0, not a fault. It
speaks of that one state; `ResetPortGivesResetValues` and `ContextSeedsRegisters` speak of `RST` in any state. -/
def Obligations.RegistersZeroAtReset : Prop :=
  ∀ r : RegNum, State.reset.regs.get r = 0 ∧
    (∀ n : Word, n.toNat = r.val → resolve State.reset (.reg n) = .ok 0 ∧
      ∃ t, exec (.rmov (.reg n) none) State.reset = .next t ∧ t.rsp = ⟨true, 0, false, false, false⟩)

/-- The invariant holds after reset. -/
def Obligations.InvariantHoldsAtReset : Prop := Invariant State.reset

/-- `context`: after `RST` and one register write for each listed register, each register holds the last value listed for
it reduced modulo 2^32, or zero; `FAULT` is 0 and the buffers are not changed. That of a register listed twice the last
value stands is the model's choice (DESIGN CHOICE, notes/assumptions/16.md). -/
def Obligations.ContextSeedsRegisters : Prop :=
  ∀ (s : State) (config : List (RegNum × Int)) (r : RegNum),
    (s.createContext config).regs.get r = BitVec.ofInt 32 ((config.reverse.lookup r).getD 0) ∧
    (s.createContext config).fault = false ∧ (s.createContext config).mem = s.mem

/-- The reference sequencer is started with `cpc` = 0 on its program after the core has been reset and seeded, whatever the
state before: a run that has ended or failed is followed by a new one, whose first command is the program's first. That of
a register listed twice the last value stands is the model's choice (DESIGN CHOICE, notes/assumptions/16.md). -/
def Obligations.SequencerStartsAtZero : Prop :=
  ∀ (s : State) (config : List (RegNum × Int)) (p : List Record),
    let t := s.startSequencer config p
    t.cpc = 0 ∧ t.program = p ∧ t.cmdReady = true ∧ t.fault = false ∧ t.fcode = 0 ∧ t.flags = s.flagReset ∧
    t.mem = s.mem ∧ t.hdrRows = s.hdrRows ∧ t.flagReset = s.flagReset ∧ t.edgeRule = s.edgeRule ∧
    (∀ r : RegNum, t.regs.get r = BitVec.ofInt 32 ((config.reverse.lookup r).getD 0)) ∧
    (∀ r rest, p = r :: rest → step t = match t.present r with
      | .next u => .next { u with cpc :=
          if u.rsp.err = true then 0
          else if r.cw.toNat / 2 ^ 28 = 5 ∧ u.rsp.br = true then r.op1.toInt
          else 1 }
      | .fault f => .fault f
      | .refused f => .refused f)

/-! ## The step -/

/-- A step runs the decoded instruction: where the record at `cpc` decodes to `i`, the step is `exec i`, after which `cpc`
stays on `ERR` = 1, moves by the signed displacement on a decrement-and-branch with `BR` = 1, and else moves on by one. -/
def Obligations.StepRunsTheDecodedInstruction : Prop :=
  ∀ (s t : State) (r : Record) (i : Instr),
    s.cmdReady = true → s.fault = false → 0 ≤ s.cpc → s.program[s.cpc.toNat]? = some r → decode r = .ok i →
    exec i s = .next t →
    step s = .next { t with cpc :=
      if t.rsp.err = true then s.cpc
      else if r.cw.toNat / 2 ^ 28 = 5 ∧ t.rsp.br = true then s.cpc + r.op1.toInt
      else s.cpc + 1 }

/-- A step on a record that decodes to nothing raises `IllegalCommand` and leaves `cpc` where it is. -/
def Obligations.StepOnIllegalRecordFaults : Prop :=
  ∀ (s : State) (r : Record), s.cmdReady = true → s.fault = false → 0 ≤ s.cpc → s.program[s.cpc.toNat]? = some r →
    (decode r = .error .illegalOpcode → step s = .next (faultedWith s 1)) ∧
    (decode r = .error .illegalSize → step s = .next (faultedWith s 2)) ∧
    (decode r = .error .illegalField → step s = .next (faultedWith s 3))

/-- How a run ends. Where `cpc` is the program's length the run is complete, and the model's step changes nothing (the
model's choice, notes/assumptions/8.md); where `FAULT` = 1 the sequencer has stopped (notes/assumptions/9.md); where `cpc` is
outside the program the program is malformed (notes/assumptions/7.md). -/
def Obligations.SequencerEndsItsRun : Prop :=
  ∀ s : State, s.cmdReady = true →
    (s.fault = false → s.cpc = s.program.length → step s = .next s) ∧
    (s.fault = true → step s = .fault (.stoppedByFault s.fcode)) ∧
    (s.fault = false → (s.cpc < 0 ∨ (s.program.length : Int) < s.cpc) → step s = .fault .branchOutsideProgram)

/-- No step changes the program, the parameters, the number of buffers or any buffer's length. -/
def Obligations.StepKeepsProgramAndPlatform : Prop :=
  ∀ s t : State, step s = .next t →
    t.program = s.program ∧ t.hdrRows = s.hdrRows ∧ t.flagReset = s.flagReset ∧ t.edgeRule = s.edgeRule ∧
    t.cmdReady = s.cmdReady ∧
    t.mem.buffers.map Buffer.len = s.mem.buffers.map Buffer.len

/-- Every step keeps the invariant, from every state that has it. -/
def Obligations.StepKeepsInvariant : Prop := ∀ s t : State, Invariant s → step s = .next t → Invariant t

/-! ## Rules over all commands -/

/-- The response of every command: `BR` is 1 only for a decrement-and-branch, `SKIP` only for a memory command, with
`ERR` = 1 the other outputs are 0, and the result of a byte- or word-width command has zeros above its width. -/
def Obligations.ResponseOfEveryCommand : Prop :=
  ∀ (i : Instr) (s t : State), exec i s = .next t →
    t.rsp.valid = true ∧
    (t.rsp.br = true → isDecBranchCommand i = true) ∧
    (t.rsp.skip = true → isMemoryCommand i = true) ∧
    (t.rsp.err = true ↔ t.fault = true) ∧
    (t.rsp.err = true → t.rsp.res = 0 ∧ t.rsp.br = false ∧ t.rsp.skip = false) ∧
    t.rsp.res.toNat < 2 ^ resultWidth i

/-- No command but the six memory commands changes a buffer, and none changes what belongs to the host: the command index,
the program, the parameters and the command port. -/
def Obligations.OnlyMemoryCommandsWriteBuffers : Prop :=
  ∀ (i : Instr) (s t : State), exec i s = .next t →
    (isMemoryCommand i = false → t.mem = s.mem) ∧
    t.cpc = s.cpc ∧ t.program = s.program ∧ t.hdrRows = s.hdrRows ∧ t.flagReset = s.flagReset ∧ t.edgeRule = s.edgeRule ∧
    t.cmdReady = s.cmdReady

/-- No decrement-and-branch command writes any flag. -/
def Obligations.DecBranchWritesNoFlag : Prop :=
  ∀ (i : Instr) (s t : State), isDecBranchCommand i = true → exec i s = .next t → t.flags = s.flags

/-- No command but `flgget` reads `X`: two states that differ in `X` alone go to states that differ in `X` at most. -/
def Obligations.ExtendIsReadOnlyByFlgget : Prop :=
  ∀ (i : Instr) (s t : State) (b : Bool), isFlagRead i = false → exec i s = .next t →
    ∃ t', exec i { s with flags := { s.flags with x := b } } = .next t' ∧
      { t' with flags := { t'.flags with x := t.flags.x } } = t

/-- The status port: `CCR` packs `X N Z V C` from bit 4 down, `STATUS` packs `FAULT` and `FCODE`. -/
def Obligations.StatusPortViews : Prop :=
  ∀ s : State,
    (s.ccr.getLsbD 4 = s.flags.x ∧ s.ccr.getLsbD 3 = s.flags.n ∧ s.ccr.getLsbD 2 = s.flags.z ∧
      s.ccr.getLsbD 1 = s.flags.v ∧ s.ccr.getLsbD 0 = s.flags.c) ∧
    s.status.getLsbD 3 = s.fault ∧ s.status.extractLsb' 0 3 = s.fcode
end

