-- ==== Sys2Proof/Laws/State.lean ====
section
/-! SUPPORT. One lemma per field per update of the state, so that no later proof unfolds an update. -/

namespace Sys2Proof.Machine

/-! ## setReg -/

@[simp] theorem State.setReg_regs (s : State) (r : RegNum) (v : Word) : (s.setReg r v).regs = s.regs.set r.val v r.isLt := rfl
@[simp] theorem State.setReg_flags (s : State) (r : RegNum) (v : Word) : (s.setReg r v).flags = s.flags := rfl
@[simp] theorem State.setReg_fault (s : State) (r : RegNum) (v : Word) : (s.setReg r v).fault = s.fault := rfl
@[simp] theorem State.setReg_fcode (s : State) (r : RegNum) (v : Word) : (s.setReg r v).fcode = s.fcode := rfl
@[simp] theorem State.setReg_rsp (s : State) (r : RegNum) (v : Word) : (s.setReg r v).rsp = s.rsp := rfl
@[simp] theorem State.setReg_cmdReady (s : State) (r : RegNum) (v : Word) : (s.setReg r v).cmdReady = s.cmdReady := rfl
@[simp] theorem State.setReg_mem (s : State) (r : RegNum) (v : Word) : (s.setReg r v).mem = s.mem := rfl
@[simp] theorem State.setReg_hdrRows (s : State) (r : RegNum) (v : Word) : (s.setReg r v).hdrRows = s.hdrRows := rfl
@[simp] theorem State.setReg_flagReset (s : State) (r : RegNum) (v : Word) : (s.setReg r v).flagReset = s.flagReset := rfl
@[simp] theorem State.setReg_edgeRule (s : State) (r : RegNum) (v : Word) : (s.setReg r v).edgeRule = s.edgeRule := rfl
@[simp] theorem State.setReg_program (s : State) (r : RegNum) (v : Word) : (s.setReg r v).program = s.program := rfl
@[simp] theorem State.setReg_cpc (s : State) (r : RegNum) (v : Word) : (s.setReg r v).cpc = s.cpc := rfl

/-! ## respond -/

@[simp] theorem State.respond_regs (s : State) (r : Response) : (s.respond r).regs = s.regs := rfl
@[simp] theorem State.respond_flags (s : State) (r : Response) : (s.respond r).flags = s.flags := rfl
@[simp] theorem State.respond_fault (s : State) (r : Response) : (s.respond r).fault = s.fault := rfl
@[simp] theorem State.respond_fcode (s : State) (r : Response) : (s.respond r).fcode = s.fcode := rfl
@[simp] theorem State.respond_rsp (s : State) (r : Response) : (s.respond r).rsp = r := rfl
@[simp] theorem State.respond_cmdReady (s : State) (r : Response) : (s.respond r).cmdReady = s.cmdReady := rfl
@[simp] theorem State.respond_mem (s : State) (r : Response) : (s.respond r).mem = s.mem := rfl
@[simp] theorem State.respond_hdrRows (s : State) (r : Response) : (s.respond r).hdrRows = s.hdrRows := rfl
@[simp] theorem State.respond_flagReset (s : State) (r : Response) : (s.respond r).flagReset = s.flagReset := rfl
@[simp] theorem State.respond_edgeRule (s : State) (r : Response) : (s.respond r).edgeRule = s.edgeRule := rfl
@[simp] theorem State.respond_program (s : State) (r : Response) : (s.respond r).program = s.program := rfl
@[simp] theorem State.respond_cpc (s : State) (r : Response) : (s.respond r).cpc = s.cpc := rfl

/-! ## raise -/

@[simp] theorem State.raise_regs (s : State) (c : Cause) : (s.raise c).regs = s.regs := rfl
@[simp] theorem State.raise_flags (s : State) (c : Cause) : (s.raise c).flags = s.flags := rfl
@[simp] theorem State.raise_fault (s : State) (c : Cause) : (s.raise c).fault = true := rfl
@[simp] theorem State.raise_fcode (s : State) (c : Cause) : (s.raise c).fcode = causeCode c := rfl
@[simp] theorem State.raise_rsp (s : State) (c : Cause) : (s.raise c).rsp = Response.error := rfl
@[simp] theorem State.raise_cmdReady (s : State) (c : Cause) : (s.raise c).cmdReady = s.cmdReady := rfl
@[simp] theorem State.raise_mem (s : State) (c : Cause) : (s.raise c).mem = s.mem := rfl
@[simp] theorem State.raise_hdrRows (s : State) (c : Cause) : (s.raise c).hdrRows = s.hdrRows := rfl
@[simp] theorem State.raise_flagReset (s : State) (c : Cause) : (s.raise c).flagReset = s.flagReset := rfl
@[simp] theorem State.raise_edgeRule (s : State) (c : Cause) : (s.raise c).edgeRule = s.edgeRule := rfl
@[simp] theorem State.raise_program (s : State) (c : Cause) : (s.raise c).program = s.program := rfl
@[simp] theorem State.raise_cpc (s : State) (c : Cause) : (s.raise c).cpc = s.cpc := rfl

/-! ## answerFaulted -/

@[simp] theorem State.answerFaulted_regs (s : State) : (s.answerFaulted).regs = s.regs := rfl
@[simp] theorem State.answerFaulted_flags (s : State) : (s.answerFaulted).flags = s.flags := rfl
@[simp] theorem State.answerFaulted_fault (s : State) : (s.answerFaulted).fault = s.fault := rfl
@[simp] theorem State.answerFaulted_fcode (s : State) : (s.answerFaulted).fcode = s.fcode := rfl
@[simp] theorem State.answerFaulted_rsp (s : State) : (s.answerFaulted).rsp = Response.error := rfl
@[simp] theorem State.answerFaulted_cmdReady (s : State) : (s.answerFaulted).cmdReady = s.cmdReady := rfl
@[simp] theorem State.answerFaulted_mem (s : State) : (s.answerFaulted).mem = s.mem := rfl
@[simp] theorem State.answerFaulted_hdrRows (s : State) : (s.answerFaulted).hdrRows = s.hdrRows := rfl
@[simp] theorem State.answerFaulted_flagReset (s : State) : (s.answerFaulted).flagReset = s.flagReset := rfl
@[simp] theorem State.answerFaulted_edgeRule (s : State) : (s.answerFaulted).edgeRule = s.edgeRule := rfl
@[simp] theorem State.answerFaulted_program (s : State) : (s.answerFaulted).program = s.program := rfl
@[simp] theorem State.answerFaulted_cpc (s : State) : (s.answerFaulted).cpc = s.cpc := rfl

/-! ## advance -/

@[simp] theorem State.advance_regs (s : State) (r : Record) : (s.advance r).regs = s.regs := rfl
@[simp] theorem State.advance_flags (s : State) (r : Record) : (s.advance r).flags = s.flags := rfl
@[simp] theorem State.advance_fault (s : State) (r : Record) : (s.advance r).fault = s.fault := rfl
@[simp] theorem State.advance_fcode (s : State) (r : Record) : (s.advance r).fcode = s.fcode := rfl
@[simp] theorem State.advance_rsp (s : State) (r : Record) : (s.advance r).rsp = s.rsp := rfl
@[simp] theorem State.advance_cmdReady (s : State) (r : Record) : (s.advance r).cmdReady = s.cmdReady := rfl
@[simp] theorem State.advance_mem (s : State) (r : Record) : (s.advance r).mem = s.mem := rfl
@[simp] theorem State.advance_hdrRows (s : State) (r : Record) : (s.advance r).hdrRows = s.hdrRows := rfl
@[simp] theorem State.advance_flagReset (s : State) (r : Record) : (s.advance r).flagReset = s.flagReset := rfl
@[simp] theorem State.advance_edgeRule (s : State) (r : Record) : (s.advance r).edgeRule = s.edgeRule := rfl
@[simp] theorem State.advance_program (s : State) (r : Record) : (s.advance r).program = s.program := rfl
@[simp] theorem State.advance_cpc (s : State) (r : Record) : (s.advance r).cpc = nextCpc s.cpc r s.rsp := rfl

/-! ## assertReset -/

@[simp] theorem State.assertReset_regs (s : State) : (s.assertReset).regs = zeroRegs := rfl
@[simp] theorem State.assertReset_flags (s : State) : (s.assertReset).flags = s.flagReset := rfl
@[simp] theorem State.assertReset_fault (s : State) : (s.assertReset).fault = false := rfl
@[simp] theorem State.assertReset_fcode (s : State) : (s.assertReset).fcode = 0 := rfl
@[simp] theorem State.assertReset_rsp (s : State) : (s.assertReset).rsp = Response.idle := rfl
@[simp] theorem State.assertReset_cmdReady (s : State) : (s.assertReset).cmdReady = false := rfl
@[simp] theorem State.assertReset_mem (s : State) : (s.assertReset).mem = s.mem := rfl
@[simp] theorem State.assertReset_hdrRows (s : State) : (s.assertReset).hdrRows = s.hdrRows := rfl
@[simp] theorem State.assertReset_flagReset (s : State) : (s.assertReset).flagReset = s.flagReset := rfl
@[simp] theorem State.assertReset_edgeRule (s : State) : (s.assertReset).edgeRule = s.edgeRule := rfl
@[simp] theorem State.assertReset_program (s : State) : (s.assertReset).program = s.program := rfl
@[simp] theorem State.assertReset_cpc (s : State) : (s.assertReset).cpc = s.cpc := rfl

/-! ## startSequencer -/

@[simp] theorem State.startSequencer_cpc (s : State) (c : List (RegNum × Int)) (p : List Record) :
    (s.startSequencer c p).cpc = 0 := rfl
@[simp] theorem State.startSequencer_program (s : State) (c : List (RegNum × Int)) (p : List Record) :
    (s.startSequencer c p).program = p := rfl
@[simp] theorem State.startSequencer_regs (s : State) (c : List (RegNum × Int)) (p : List Record) :
    (s.startSequencer c p).regs = (s.createContext c).regs := rfl
@[simp] theorem State.startSequencer_flags (s : State) (c : List (RegNum × Int)) (p : List Record) :
    (s.startSequencer c p).flags = (s.createContext c).flags := rfl
@[simp] theorem State.startSequencer_fault (s : State) (c : List (RegNum × Int)) (p : List Record) :
    (s.startSequencer c p).fault = (s.createContext c).fault := rfl
@[simp] theorem State.startSequencer_fcode (s : State) (c : List (RegNum × Int)) (p : List Record) :
    (s.startSequencer c p).fcode = (s.createContext c).fcode := rfl
@[simp] theorem State.startSequencer_rsp (s : State) (c : List (RegNum × Int)) (p : List Record) :
    (s.startSequencer c p).rsp = (s.createContext c).rsp := rfl
@[simp] theorem State.startSequencer_cmdReady (s : State) (c : List (RegNum × Int)) (p : List Record) :
    (s.startSequencer c p).cmdReady = (s.createContext c).cmdReady := rfl
@[simp] theorem State.startSequencer_mem (s : State) (c : List (RegNum × Int)) (p : List Record) :
    (s.startSequencer c p).mem = (s.createContext c).mem := rfl
@[simp] theorem State.startSequencer_hdrRows (s : State) (c : List (RegNum × Int)) (p : List Record) :
    (s.startSequencer c p).hdrRows = (s.createContext c).hdrRows := rfl
@[simp] theorem State.startSequencer_flagReset (s : State) (c : List (RegNum × Int)) (p : List Record) :
    (s.startSequencer c p).flagReset = (s.createContext c).flagReset := rfl
@[simp] theorem State.startSequencer_edgeRule (s : State) (c : List (RegNum × Int)) (p : List Record) :
    (s.startSequencer c p).edgeRule = (s.createContext c).edgeRule := rfl

/-! ## releaseReset -/

@[simp] theorem State.releaseReset_regs (s : State) : (s.releaseReset).regs = s.regs := rfl
@[simp] theorem State.releaseReset_flags (s : State) : (s.releaseReset).flags = s.flags := rfl
@[simp] theorem State.releaseReset_fault (s : State) : (s.releaseReset).fault = s.fault := rfl
@[simp] theorem State.releaseReset_fcode (s : State) : (s.releaseReset).fcode = s.fcode := rfl
@[simp] theorem State.releaseReset_rsp (s : State) : (s.releaseReset).rsp = s.rsp := rfl
@[simp] theorem State.releaseReset_cmdReady (s : State) : (s.releaseReset).cmdReady = true := rfl
@[simp] theorem State.releaseReset_mem (s : State) : (s.releaseReset).mem = s.mem := rfl
@[simp] theorem State.releaseReset_hdrRows (s : State) : (s.releaseReset).hdrRows = s.hdrRows := rfl
@[simp] theorem State.releaseReset_flagReset (s : State) : (s.releaseReset).flagReset = s.flagReset := rfl
@[simp] theorem State.releaseReset_edgeRule (s : State) : (s.releaseReset).edgeRule = s.edgeRule := rfl
@[simp] theorem State.releaseReset_program (s : State) : (s.releaseReset).program = s.program := rfl
@[simp] theorem State.releaseReset_cpc (s : State) : (s.releaseReset).cpc = s.cpc := rfl

/-! ## writeBack and finish -/

@[simp] theorem State.writeBack_none (s : State) (v : Word) : s.writeBack none v = s := rfl
@[simp] theorem State.writeBack_some (s : State) (r : RegNum) (v : Word) : s.writeBack (some r) v = s.setReg r v := rfl
@[simp] theorem State.writeBack_flags (s : State) (rd : Option RegNum) (v : Word) : (s.writeBack rd v).flags = s.flags := by
  cases rd <;> rfl
@[simp] theorem State.writeBack_fault (s : State) (rd : Option RegNum) (v : Word) : (s.writeBack rd v).fault = s.fault := by
  cases rd <;> rfl
@[simp] theorem State.writeBack_fcode (s : State) (rd : Option RegNum) (v : Word) : (s.writeBack rd v).fcode = s.fcode := by
  cases rd <;> rfl
@[simp] theorem State.writeBack_rsp (s : State) (rd : Option RegNum) (v : Word) : (s.writeBack rd v).rsp = s.rsp := by
  cases rd <;> rfl
@[simp] theorem State.writeBack_cmdReady (s : State) (rd : Option RegNum) (v : Word) : (s.writeBack rd v).cmdReady = s.cmdReady := by
  cases rd <;> rfl
@[simp] theorem State.writeBack_mem (s : State) (rd : Option RegNum) (v : Word) : (s.writeBack rd v).mem = s.mem := by
  cases rd <;> rfl
@[simp] theorem State.writeBack_hdrRows (s : State) (rd : Option RegNum) (v : Word) : (s.writeBack rd v).hdrRows = s.hdrRows := by
  cases rd <;> rfl
@[simp] theorem State.writeBack_flagReset (s : State) (rd : Option RegNum) (v : Word) : (s.writeBack rd v).flagReset = s.flagReset := by
  cases rd <;> rfl
@[simp] theorem State.writeBack_edgeRule (s : State) (rd : Option RegNum) (v : Word) : (s.writeBack rd v).edgeRule = s.edgeRule := by
  cases rd <;> rfl
@[simp] theorem State.writeBack_program (s : State) (rd : Option RegNum) (v : Word) : (s.writeBack rd v).program = s.program := by
  cases rd <;> rfl
@[simp] theorem State.writeBack_cpc (s : State) (rd : Option RegNum) (v : Word) : (s.writeBack rd v).cpc = s.cpc := by
  cases rd <;> rfl
@[simp] theorem State.finish_flags (s : State) (v : Word) (rd : Option RegNum) : (s.finish v rd).flags = s.flags := by
  cases rd <;> rfl
@[simp] theorem State.finish_fault (s : State) (v : Word) (rd : Option RegNum) : (s.finish v rd).fault = s.fault := by
  cases rd <;> rfl
@[simp] theorem State.finish_fcode (s : State) (v : Word) (rd : Option RegNum) : (s.finish v rd).fcode = s.fcode := by
  cases rd <;> rfl
@[simp] theorem State.finish_rsp (s : State) (v : Word) (rd : Option RegNum) : (s.finish v rd).rsp = Response.ofResult v := rfl
@[simp] theorem State.finish_cmdReady (s : State) (v : Word) (rd : Option RegNum) : (s.finish v rd).cmdReady = s.cmdReady := by
  cases rd <;> rfl
@[simp] theorem State.finish_mem (s : State) (v : Word) (rd : Option RegNum) : (s.finish v rd).mem = s.mem := by
  cases rd <;> rfl
@[simp] theorem State.finish_hdrRows (s : State) (v : Word) (rd : Option RegNum) : (s.finish v rd).hdrRows = s.hdrRows := by
  cases rd <;> rfl
@[simp] theorem State.finish_flagReset (s : State) (v : Word) (rd : Option RegNum) : (s.finish v rd).flagReset = s.flagReset := by
  cases rd <;> rfl
@[simp] theorem State.finish_edgeRule (s : State) (v : Word) (rd : Option RegNum) : (s.finish v rd).edgeRule = s.edgeRule := by
  cases rd <;> rfl
@[simp] theorem State.finish_program (s : State) (v : Word) (rd : Option RegNum) : (s.finish v rd).program = s.program := by
  cases rd <;> rfl
@[simp] theorem State.finish_cpc (s : State) (v : Word) (rd : Option RegNum) : (s.finish v rd).cpc = s.cpc := by
  cases rd <;> rfl
@[simp] theorem State.finish_regs (s : State) (v : Word) (rd : Option RegNum) : (s.finish v rd).regs = (s.writeBack rd v).regs := rfl

/-! ## Reading registers back -/

@[simp] theorem State.setReg_reg_self (s : State) (r : RegNum) (v : Word) : (s.setReg r v).reg r = v := by
  simp [State.reg, Vector.get_eq_getElem]

theorem State.setReg_reg_other (s : State) (r q : RegNum) (v : Word) (h : q ≠ r) : (s.setReg r v).reg q = s.reg q := by
  have : r.val ≠ q.val := fun e => h (Fin.ext e.symm)
  simp [State.reg, Vector.get_eq_getElem, this]

@[simp] theorem zeroRegs_get (r : RegNum) : zeroRegs.get r = 0 := by
  simp [zeroRegs, Vector.get_eq_getElem]

end Sys2Proof.Machine
end

