-- ==== Sys2Proof/Laws/Ops.lean ====
section
/-! SUPPORT. What each shared operation can do, said once: `settle` and `command`, operand resolution, and the effects of the
five families. -/

namespace Sys2Proof.Machine

/-! ## One command -/

theorem State.command_eq (s : State) (e : Except Cause State) : s.command e = .next (s.settle e) := rfl

theorem State.settle_faulted (s : State) (e : Except Cause State) (h : s.fault = true) : s.settle e = s.answerFaulted := by
  simp [State.settle, h]

@[simp] theorem State.settle_ok (s t : State) (h : s.fault = false) : s.settle (.ok t) = t := by
  simp [State.settle, h]

@[simp] theorem State.settle_error (s : State) (c : Cause) (h : s.fault = false) : s.settle (.error c) = s.raise c := by
  simp [State.settle, h]

/-- What a command can do: answer while faulted, raise its cause, or have its effect. -/
theorem State.settle_cases (s : State) (e : Except Cause State) :
    (s.fault = true ∧ s.settle e = s.answerFaulted) ∨
    (s.fault = false ∧ ∃ c, e = .error c ∧ s.settle e = s.raise c) ∨
    (s.fault = false ∧ ∃ t, e = .ok t ∧ s.settle e = t) := by
  cases h : s.fault with
  | true => exact .inl ⟨rfl, s.settle_faulted e h⟩
  | false =>
    cases e with
    | error c => exact .inr (.inl ⟨rfl, c, rfl, s.settle_error c h⟩)
    | ok t => exact .inr (.inr ⟨rfl, t, rfl, s.settle_ok t h⟩)

/-! ## Sequencing of checks -/

@[simp] theorem bind_ok {α β : Type} (a : α) (f : α → Except Cause β) : (Except.ok a >>= f) = f a := rfl

@[simp] theorem bind_error {α β : Type} (c : Cause) (f : α → Except Cause β) : (Except.error c >>= f) = .error c := rfl

/-! ## Operand resolution -/

@[simp] theorem resolve_imm (s : State) (v : Word) : resolve s (.imm v) = .ok v := rfl

theorem resolve_reg_of_lt (s : State) (n : Word) (h : n.toNat < 16) : resolve s (.reg n) = .ok (s.reg ⟨n.toNat, h⟩) := by
  simp [resolve, h]

theorem resolve_reg_of_ge (s : State) (n : Word) (h : 16 ≤ n.toNat) : resolve s (.reg n) = .error .badRegister := by
  simp [resolve, Nat.not_lt.mpr h]

/-- A well-formed operand resolves. -/
theorem resolve_wellFormed (s : State) (a : Src) (h : a.wellFormed = true) : ∃ v, resolve s a = .ok v := by
  cases a with
  | imm v => exact ⟨v, rfl⟩
  | reg n =>
    have h' : n.toNat < 16 := by simp [Src.wellFormed] at h; omega
    exact ⟨_, resolve_reg_of_lt s n h'⟩

/-- An operand that is not well-formed names a register that does not exist. -/
theorem resolve_not_wellFormed (s : State) (a : Src) (h : a.wellFormed = false) : resolve s a = .error .badRegister := by
  cases a with
  | imm v => simp [Src.wellFormed] at h
  | reg n => exact resolve_reg_of_ge s n (by simp [Src.wellFormed] at h; omega)

/-- Operand resolution reads the registers alone. -/
theorem resolve_congr (s t : State) (a : Src) (h : s.regs = t.regs) : resolve s a = resolve t a := by
  cases a <;> simp [resolve, State.reg, h]

theorem flagOfNumber_isSome (k : Word) : (flagOfNumber k).isSome = flagNumberWellFormed k := by
  unfold flagOfNumber flagNumberWellFormed
  split <;> (simp_all; try omega)

theorem resolveFlag_wellFormed (k : Word) (h : flagNumberWellFormed k = true) : ∃ f, resolveFlag k = .ok f := by
  rw [← flagOfNumber_isSome, Option.isSome_iff_exists] at h
  obtain ⟨f, hf⟩ := h
  exact ⟨f, by simp [resolveFlag, hf]⟩

theorem resolveFlag_not_wellFormed (k : Word) (h : flagNumberWellFormed k = false) :
    resolveFlag k = .error .badRegister := by
  rw [← flagOfNumber_isSome, Option.isSome_eq_false_iff, Option.isNone_iff_eq_none] at h
  simp [resolveFlag, h]

theorem resolveCounter_wellFormed (d : RegNum) (h : counterWellFormed d = true) : resolveCounter d = .ok d := by
  have : d.val < 8 := by simp [counterWellFormed] at h; omega
  simp [resolveCounter, this]

theorem resolveCounter_not_wellFormed (d : RegNum) (h : counterWellFormed d = false) :
    resolveCounter d = .error .badRegister := by
  have : ¬ d.val < 8 := by simp [counterWellFormed] at h; omega
  simp [resolveCounter, this]

theorem resolveBuffer_of_some (s : State) (n : Word) (b : Buffer) (h : s.mem.buffer n.toNat = some b) :
    resolveBuffer s n = .ok b := by simp [resolveBuffer, h]

theorem resolveBuffer_of_none (s : State) (n : Word) (h : s.mem.buffer n.toNat = none) :
    resolveBuffer s n = .error .badBuffer := by simp [resolveBuffer, h]

/-! ## The effect of each instruction -/

/-- The effect of an instruction before the fault latch is looked at: `exec` settles it. -/
def effectOf (i : Instr) (s : State) : Except Cause State :=
  match i with
  | .rmov src rd => do
    let op1 ← resolve s src
    .ok (s.finish op1 rd)
  | .radd a b rd => do
    let op1 ← resolve s a
    let op2 ← resolve s b
    .ok (s.finish (addResult op1 op2) rd)
  | .flgget flag rd => do
    let f ← resolveFlag flag
    .ok (s.finish ((BitVec.ofBool (s.flags.get f)).setWidth 32) rd)
  | .flgset flag src => do
    let f ← resolveFlag flag
    let op2 ← resolve s src
    .ok (State.finish { s with flags := s.flags.set f (op2.getLsbD 0) } 0 none)
  | .dbt d _ => decBranchEffect .t d s
  | .dbra d _ => decBranchEffect .ra d s
  | .dbhi d _ => decBranchEffect .hi d s
  | .dbls d _ => decBranchEffect .ls d s
  | .dbcc d _ => decBranchEffect .cc d s
  | .dbcs d _ => decBranchEffect .cs d s
  | .dbne d _ => decBranchEffect .ne d s
  | .dbeq d _ => decBranchEffect .eq d s
  | .dbvc d _ => decBranchEffect .vc d s
  | .dbvs d _ => decBranchEffect .vs d s
  | .dbpl d _ => decBranchEffect .pl d s
  | .dbmi d _ => decBranchEffect .mi d s
  | .dbge d _ => decBranchEffect .ge d s
  | .dblt d _ => decBranchEffect .lt d s
  | .dbgt d _ => decBranchEffect .gt d s
  | .dble d _ => decBranchEffect .le d s
  | .orB off v b rd => logicEffect .or 1 off v b rd s
  | .orW off v b rd => logicEffect .or 2 off v b rd s
  | .orL off v b rd => logicEffect .or 4 off v b rd s
  | .andB off v b rd => logicEffect .and 1 off v b rd s
  | .andW off v b rd => logicEffect .and 2 off v b rd s
  | .andL off v b rd => logicEffect .and 4 off v b rd s
  | .offs st x y rd => offsetEffect 0 st x y rd s
  | .offsHdr st x y rd => offsetEffect s.hdrRows.toInt st x y rd s
  | .asrW v k rd => shiftEffect 16 .asr v k rd s
  | .asrL v k rd => shiftEffect 32 .asr v k rd s
  | .aslW v k rd => shiftEffect 16 .asl v k rd s
  | .aslL v k rd => shiftEffect 32 .asl v k rd s
  | .lsrW v k rd => shiftEffect 16 .lsr v k rd s
  | .lsrL v k rd => shiftEffect 32 .lsr v k rd s
  | .lslW v k rd => shiftEffect 16 .lsl v k rd s
  | .lslL v k rd => shiftEffect 32 .lsl v k rd s
  | .rorW v k rd => shiftEffect 16 .ror v k rd s
  | .rorL v k rd => shiftEffect 32 .ror v k rd s
  | .rolW v k rd => shiftEffect 16 .rol v k rd s
  | .rolL v k rd => shiftEffect 32 .rol v k rd s

/-- Every instruction answers a next state: its effect, settled. -/
theorem exec_eq (i : Instr) (s : State) : exec i s = .next (s.settle (effectOf i s)) := by
  cases i <;> rfl

/-- An instruction whose checks pass has its effect. -/
theorem exec_of_ok {i : Instr} {s t : State} (hf : s.fault = false) (h : effectOf i s = .ok t) : exec i s = .next t := by
  rw [exec_eq, h, State.settle_ok s t hf]

/-- An instruction with a check that fails raises its cause. -/
theorem exec_of_error {i : Instr} {s : State} {c : Cause} (hf : s.fault = false) (h : effectOf i s = .error c) :
    exec i s = .next (s.raise c) := by
  rw [exec_eq, h, State.settle_error s c hf]

/-- An instruction met by a faulted core is answered and does nothing. -/
theorem exec_of_faulted (i : Instr) {s : State} (hf : s.fault = true) : exec i s = .next s.answerFaulted := by
  rw [exec_eq, State.settle_faulted s _ hf]

/-- A shift or rotate with readable operands finishes with its flags and result. -/
theorem shiftEffect_ok (width : Nat) (k : ShiftKind) (value count : Src) (rd : Option RegNum) (s : State) (a b : Word)
    (ha : resolve s value = .ok a) (hb : resolve s count = .ok b) :
    shiftEffect width k value count rd s =
      .ok (State.finish { s with flags := s.flags.afterShift k (a.setWidth width) (effectiveCount width b) }
        ((shiftResult k (a.setWidth width) (effectiveCount width b)).setWidth 32) rd) := by
  simp [shiftEffect, ha, hb]

/-- A logical command with readable operands and an attached buffer is skipped or performed. -/
theorem logicEffect_ok (k : LogicKind) (n : Nat) (offset value : Src) (b : Word) (rd : Option RegNum)
    (s : State) (x y : Word) (buf : Buffer) (hx : resolve s offset = .ok x) (hy : resolve s value = .ok y)
    (hb : s.mem.buffer b.toNat = some buf) :
    logicEffect k n offset value b rd s =
      .ok (if s.edgeRule.skips x.toInt n buf.len.val then s.respond Response.skipped
        else logicPerform k n s b.toNat buf x.toInt.toNat y rd) := by
  simp [logicEffect, hx, hy, resolveBuffer_of_some s b buf hb]

/-- A decrement-and-branch command on a data register ends the loop or decrements. -/
theorem decBranchEffect_ok (k : Cond) (d : RegNum) (s : State) (h : counterWellFormed d = true) :
    decBranchEffect k d s =
      .ok (if condHolds k s.flags then s.respond (Response.ofBranch false)
        else (s.setReg d (withLowHalf (s.reg d) (decrementedCounter ((s.reg d).setWidth 16)))).respond
          (Response.ofBranch (decrementedCounter ((s.reg d).setWidth 16) != 0xFFFF#16))) := by
  simp [decBranchEffect, resolveCounter_wellFormed d h]

/-- A helper with readable operands finishes with the byte offset. -/
theorem offsetEffect_ok (header : Int) (stride x y : Src) (rd : Option RegNum) (s : State) (a b c : Word)
    (ha : resolve s stride = .ok a) (hb : resolve s x = .ok b) (hc : resolve s y = .ok c) :
    offsetEffect header stride x y rd s = .ok (s.finish (byteOffset header a b c) rd) := by
  simp [offsetEffect, ha, hb, hc]

/-! ## What the effect of an instruction can be -/

/-- The shapes an effect can have. -/
inductive EffectShape (s : State) : State → Prop where
  /-- A result written back, with the flags of the command. -/
  | finished (f : Flags) (res : Word) (rd : Option RegNum) : EffectShape s (State.finish { s with flags := f } res rd)
  /-- A skipped memory command. -/
  | skipped : EffectShape s (s.respond Response.skipped)
  /-- A performed memory command. -/
  | performed (k : LogicKind) (n : Nat) (number : Nat) (buf : Buffer) (off : Nat) (mask : Word) (rd : Option RegNum)
      (attached : s.mem.buffer number = some buf) : EffectShape s (logicPerform k n s number buf off mask rd)
  /-- A loop that is over. -/
  | loopOver : EffectShape s (s.respond (Response.ofBranch false))
  /-- A decremented counter. -/
  | decremented (d : RegNum) (v : Word) (br : Bool) : EffectShape s ((s.setReg d v).respond (Response.ofBranch br))

theorem bind_eq_ok {α β : Type} (e : Except Cause α) (f : α → Except Cause β) (b : β) (h : (e >>= f) = .ok b) :
    ∃ a, e = .ok a ∧ f a = .ok b := by
  cases e with
  | error c => cases h
  | ok a => exact ⟨a, rfl, h⟩

theorem shiftEffect_shape {width : Nat} {k : ShiftKind} {value count : Src} {rd : Option RegNum} {s t : State}
    (h : shiftEffect width k value count rd s = .ok t) : EffectShape s t := by
  obtain ⟨a, -, h⟩ := bind_eq_ok _ _ _ h
  obtain ⟨b, -, h⟩ := bind_eq_ok _ _ _ h
  cases h
  exact .finished _ _ _

theorem logicEffect_shape {k : LogicKind} {n : Nat} {offset value : Src} {b : Word}
    {rd : Option RegNum} {s t : State} (h : logicEffect k n offset value b rd s = .ok t) : EffectShape s t := by
  obtain ⟨x, -, h⟩ := bind_eq_ok _ _ _ h
  obtain ⟨y, -, h⟩ := bind_eq_ok _ _ _ h
  obtain ⟨buf, hb, h⟩ := bind_eq_ok _ _ _ h
  have hb' : s.mem.buffer b.toNat = some buf := by
    unfold resolveBuffer at hb
    split at hb <;> simp_all
  cases h
  split
  · exact .skipped
  · exact .performed _ _ _ _ _ _ _ hb'

theorem decBranchEffect_shape {k : Cond} {d : RegNum} {s t : State} (h : decBranchEffect k d s = .ok t) :
    EffectShape s t := by
  obtain ⟨c, -, h⟩ := bind_eq_ok _ _ _ h
  cases h
  split
  · exact .loopOver
  · exact .decremented _ _ _

theorem offsetEffect_shape {header : Int} {stride x y : Src} {rd : Option RegNum} {s t : State}
    (h : offsetEffect header stride x y rd s = .ok t) : EffectShape s t := by
  obtain ⟨a, -, h⟩ := bind_eq_ok _ _ _ h
  obtain ⟨b, -, h⟩ := bind_eq_ok _ _ _ h
  obtain ⟨c, -, h⟩ := bind_eq_ok _ _ _ h
  cases h
  exact .finished s.flags _ _

/-- Everything an instruction's effect can be. -/
theorem effectOf_shape {i : Instr} {s t : State} (h : effectOf i s = .ok t) : EffectShape s t := by
  cases i
  case rmov =>
    obtain ⟨a, -, h⟩ := bind_eq_ok _ _ _ h
    cases h
    exact .finished s.flags _ _
  case radd =>
    obtain ⟨a, -, h⟩ := bind_eq_ok _ _ _ h
    obtain ⟨b, -, h⟩ := bind_eq_ok _ _ _ h
    cases h
    exact .finished s.flags _ _
  case flgget =>
    obtain ⟨a, -, h⟩ := bind_eq_ok _ _ _ h
    cases h
    exact .finished s.flags _ _
  case flgset =>
    obtain ⟨a, -, h⟩ := bind_eq_ok _ _ _ h
    obtain ⟨b, -, h⟩ := bind_eq_ok _ _ _ h
    cases h
    exact .finished _ _ none
  all_goals
    first
    | exact shiftEffect_shape h
    | exact logicEffect_shape h
    | exact decBranchEffect_shape h
    | exact offsetEffect_shape h

end Sys2Proof.Machine
end

