-- ==== Sys2Proof/Laws/Flags.lean ====
section
/-! SUPPORT. The flags and their packing in `CCR`, and the bits of the shift and rotate results. -/

namespace Sys2Proof.Machine

/-- Bit `k` of `CCR` is the flag numbered `k`. -/
theorem Flags.toCcr_getLsbD (f : Flags) :
    f.toCcr.getLsbD 0 = f.c ∧ f.toCcr.getLsbD 1 = f.v ∧ f.toCcr.getLsbD 2 = f.z ∧ f.toCcr.getLsbD 3 = f.n ∧
      f.toCcr.getLsbD 4 = f.x := by
  obtain ⟨x, n, z, v, c⟩ := f
  revert x n z v c
  decide

/-- Packing and unpacking the flags. -/
theorem Flags.ofCcr_toCcr (f : Flags) : Flags.ofCcr f.toCcr = f := by
  obtain ⟨h0, h1, h2, h3, h4⟩ := f.toCcr_getLsbD
  unfold Flags.ofCcr
  rw [h0, h1, h2, h3, h4]

/-- The number of each flag. -/
theorem flagOfNumber_cases (k : Word) (h : k.toNat ≤ 4) :
    (k.toNat = 0 ∧ flagOfNumber k = some .c) ∨ (k.toNat = 1 ∧ flagOfNumber k = some .v) ∨
    (k.toNat = 2 ∧ flagOfNumber k = some .z) ∨ (k.toNat = 3 ∧ flagOfNumber k = some .n) ∨
    (k.toNat = 4 ∧ flagOfNumber k = some .x) := by
  have : k.toNat = 0 ∨ k.toNat = 1 ∨ k.toNat = 2 ∨ k.toNat = 3 ∨ k.toNat = 4 := by omega
  rcases this with e | e | e | e | e <;> simp [flagOfNumber, e]

theorem effectiveCount_lt (width : Nat) (count : Word) (h : 0 < width) : effectiveCount width count < width :=
  Nat.mod_lt _ h

/-- Bit `i` of an arithmetic right shift: the value's bit `e` places up, or its top bit. -/
theorem shiftResult_asr_bit {width : Nat} (v : BitVec width) (e i : Nat) (hi : i < width) :
    (shiftResult .asr v e).getLsbD i = v.getLsbD (min (i + e) (width - 1)) := by
  simp only [shiftResult, BitVec.getLsbD_sshiftRight]
  by_cases h : e + i < width
  · rw [if_pos h, Nat.min_eq_left (by omega), Nat.add_comm]
    simp [Nat.not_le.mpr hi]
  · rw [if_neg h, Nat.min_eq_right (by omega)]
    simp [Nat.not_le.mpr hi, BitVec.msb_eq_getLsbD_last]

/-- Bit `i` of a left shift: the value's bit `e` places down, or 0. -/
theorem shiftResult_left_bit {width : Nat} (k : ShiftKind) (hk : k = .asl ∨ k = .lsl) (v : BitVec width) (e i : Nat)
    (hi : i < width) : (shiftResult k v e).getLsbD i = (decide (e ≤ i) && v.getLsbD (i - e)) := by
  have key : (v <<< e).getLsbD i = (decide (e ≤ i) && v.getLsbD (i - e)) := by
    rw [BitVec.getLsbD_shiftLeft]
    by_cases h : i < e
    · simp [h, Nat.not_le.mpr h]
    · simp [h, hi, Nat.le_of_not_lt h]
  rcases hk with rfl | rfl <;> exact key

/-- Bit `i` of a logical right shift: the value's bit `e` places up, or 0. -/
theorem shiftResult_lsr_bit {width : Nat} (v : BitVec width) (e i : Nat) :
    (shiftResult .lsr v e).getLsbD i = (decide (i + e < width) && v.getLsbD (i + e)) := by
  simp only [shiftResult, BitVec.getLsbD_ushiftRight, Nat.add_comm e i]
  by_cases h : i + e < width
  · simp [h]
  · simp [h, BitVec.getLsbD_of_ge v (i + e) (by omega)]

/-- Bit `i` of a rotate right: the value's bit `e` places up, around the end. -/
theorem shiftResult_ror_bit {width : Nat} (v : BitVec width) (e i : Nat) (he : e < width) (hi : i < width) :
    (shiftResult .ror v e).getLsbD i = v.getLsbD ((i + e) % width) := by
  simp only [shiftResult, BitVec.getLsbD_rotateRight, Nat.mod_eq_of_lt he]
  by_cases h : i < width - e
  · rw [Nat.mod_eq_of_lt (by omega), Nat.add_comm i e]
    simp [h]
  · have : (i + e) % width = i - (width - e) := by
      rw [Nat.mod_eq_sub_mod (by omega), Nat.mod_eq_of_lt (by omega)]; omega
    rw [this]
    simp [h, hi]

/-- Bit `i` of a rotate left: the value's bit `e` places down, around the end. -/
theorem shiftResult_rol_bit {width : Nat} (v : BitVec width) (e i : Nat) (he : e < width) (hi : i < width) :
    (shiftResult .rol v e).getLsbD i = v.getLsbD ((i + width - e) % width) := by
  simp only [shiftResult, BitVec.getLsbD_rotateLeft, Nat.mod_eq_of_lt he]
  by_cases h : i < e
  · have : (i + width - e) % width = width - e + i := by rw [Nat.mod_eq_of_lt (by omega)]; omega
    rw [this]
    simp [h]
  · have : (i + width - e) % width = i - e := by
      rw [Nat.mod_eq_sub_mod (by omega), Nat.mod_eq_of_lt (by omega)]; omega
    rw [this]
    simp [h, hi]

/-- An effective count of 0 leaves the value, for every operation. -/
theorem shiftResult_zero {width : Nat} (k : ShiftKind) (v : BitVec width) : shiftResult k v 0 = v := by
  apply BitVec.eq_of_getLsbD_eq
  intro i hi
  cases k
  · rw [shiftResult_asr_bit _ _ _ hi, Nat.min_eq_left (by omega), Nat.add_zero]
  · rw [shiftResult_left_bit _ (.inl rfl) _ _ _ hi]; simp
  · rw [shiftResult_lsr_bit]; simp [hi]
  · rw [shiftResult_left_bit _ (.inr rfl) _ _ _ hi]; simp
  · rw [shiftResult_ror_bit _ _ _ (by omega) hi]; simp [Nat.mod_eq_of_lt hi]
  · rw [shiftResult_rol_bit _ _ _ (by omega) hi]; simp [Nat.mod_eq_of_lt hi]

/-- Overflow after `asl` is 1 exactly when one of the top e + 1 bits differs from the top bit. -/
theorem shiftOverflow_asl {width : Nat} (v : BitVec width) (e : Nat) (he : e < width) :
    shiftOverflow .asl v e = (List.range (e + 1)).any fun j => v.getLsbD (width - 1 - j) != v.getLsbD (width - 1) := by
  have hbit : ∀ i, i < width → (v.sshiftRight (width - 1 - e)).getLsbD i =
      if width - 1 - e + i < width then v.getLsbD (width - 1 - e + i) else v.msb := by
    intro i hi
    rw [BitVec.getLsbD_sshiftRight]
    simp [Nat.not_le.mpr hi]
  rw [Bool.eq_iff_iff]
  simp only [shiftOverflow, Bool.and_eq_true, Bool.not_eq_true', beq_eq_false_iff_ne, ne_eq, List.any_eq_true,
    List.mem_range, bne_iff_ne]
  have hmsb := BitVec.msb_eq_getLsbD_last v
  constructor
  · rintro ⟨h0, h1⟩
    by_contra hall
    push Not at hall
    have allmsb : ∀ i, i < width → (v.sshiftRight (width - 1 - e)).getLsbD i = v.msb := by
      intro i hi
      rw [hbit i hi]
      split
      · have := hall (width - 1 - (width - 1 - e + i)) (by omega)
        rw [show width - 1 - (width - 1 - (width - 1 - e + i)) = width - 1 - e + i by omega] at this
        rw [this, hmsb]
      · rfl
    cases hm : v.msb with
    | false => exact h0 (BitVec.eq_of_getLsbD_eq fun i hi => by rw [allmsb i hi, hm]; simp)
    | true => exact h1 (BitVec.eq_of_getLsbD_eq fun i hi => by rw [allmsb i hi, hm]; simp [hi])
  · rintro ⟨j, hj, hne⟩
    have hb : (v.sshiftRight (width - 1 - e)).getLsbD (e - j) = v.getLsbD (width - 1 - j) := by
      rw [hbit _ (by omega), if_pos (by omega)]; congr 1; omega
    have ht : (v.sshiftRight (width - 1 - e)).getLsbD e = v.getLsbD (width - 1) := by
      rw [hbit _ (by omega), if_pos (by omega)]; congr 1; omega
    constructor
    · intro h
      rw [h] at hb ht
      exact hne (by rw [← hb, ← ht]; simp)
    · intro h
      rw [h] at hb ht
      exact hne (by rw [← hb, ← ht]; simp [he, show e - j < width by omega])

end Sys2Proof.Machine
end

