-- ==== Sys2Proof/Laws/Memory.lean ====
section
/-! SUPPORT. The buffers: a byte reads as what was last written to it, a write leaves every other byte alone, and every
memory operation keeps the canonical form. -/

namespace Sys2Proof.Machine

/-! ## Cells -/

theorem findCell_erase_self (a : Nat) (l : List Host.Cell) : findCell a (eraseCell a l) = none := by
  induction l with
  | nil => rfl
  | cons c rest ih =>
    by_cases h : c.1 = a
    · simpa [eraseCell, h] using ih
    · simpa [eraseCell, h, findCell] using ih

theorem findCell_erase_other (a k : Nat) (h : k ≠ a) (l : List Host.Cell) : findCell k (eraseCell a l) = findCell k l := by
  induction l with
  | nil => rfl
  | cons c rest ih =>
    by_cases hc : c.1 = a
    · have : c.1 ≠ k := by omega
      simpa [eraseCell, hc, findCell, this, Ne.symm h] using ih
    · by_cases hk : c.1 = k
      · simp [eraseCell, findCell, hk, h]
      · simpa [eraseCell, hc, findCell, hk] using ih

theorem findCell_insert_self (a : Nat) (b : Byte) (l : List Host.Cell) (h : findCell a l = none) :
    findCell a (insertCell a b l) = some b := by
  induction l with
  | nil => simp [insertCell, findCell]
  | cons c rest ih =>
    by_cases hc : c.1 = a
    · simp [findCell, hc] at h
    · simp only [findCell, hc, if_false] at h
      unfold insertCell
      split
      · simp [findCell]
      · simp [findCell, hc, ih h]

theorem findCell_insert_other (a k : Nat) (b : Byte) (h : k ≠ a) (l : List Host.Cell) :
    findCell k (insertCell a b l) = findCell k l := by
  have h' : ¬ a = k := fun e => h e.symm
  induction l with
  | nil => simp [insertCell, findCell, h']
  | cons c rest ih =>
    unfold insertCell
    split
    · simp [findCell, h']
    · simp [findCell, ih]

theorem findCell_put_self (a : Nat) (b : Byte) (l : List Host.Cell) : (findCell a (putCell a b l)).getD unlistedByte = b := by
  unfold putCell
  split
  · next h => simp [findCell_erase_self, h]
  · simp [findCell_insert_self a b _ (findCell_erase_self a l)]

theorem findCell_put_other (a k : Nat) (b : Byte) (h : k ≠ a) (l : List Host.Cell) :
    findCell k (putCell a b l) = findCell k l := by
  unfold putCell
  split
  · exact findCell_erase_other a k h l
  · rw [findCell_insert_other a k b h, findCell_erase_other a k h]

/-! ## Canonical form of cells -/

theorem cellsWf_cons {len : Nat} {c : Host.Cell} {rest : List Host.Cell} :
    cellsWf len (c :: rest) = true ↔
      c.1 < len ∧ c.2 ≠ unlistedByte ∧ (∀ d ∈ rest, c.1 < d.1) ∧ cellsWf len rest = true := by
  obtain ⟨a, b⟩ := c
  simp [cellsWf, and_assoc]

theorem cellsWf_erase (len a : Nat) (l : List Host.Cell) (h : cellsWf len l = true) : cellsWf len (eraseCell a l) = true := by
  induction l with
  | nil => rfl
  | cons c rest ih =>
    rw [cellsWf_cons] at h
    by_cases hc : c.1 = a
    · simpa [eraseCell, hc] using ih h.2.2.2
    · have e : eraseCell a (c :: rest) = c :: eraseCell a rest := by simp [eraseCell, hc]
      rw [e, cellsWf_cons]
      refine ⟨h.1, h.2.1, fun d hd => h.2.2.1 d ?_, ih h.2.2.2⟩
      exact (List.mem_filter.mp hd).1

theorem eraseCell_ne (a : Nat) (l : List Host.Cell) : ∀ c ∈ eraseCell a l, c.1 ≠ a := by
  intro c hc
  simpa using (List.mem_filter.mp hc).2

theorem mem_insertCell {a : Nat} {b : Byte} {l : List Host.Cell} {c : Host.Cell} (h : c ∈ insertCell a b l) :
    c = (a, b) ∨ c ∈ l := by
  induction l with
  | nil => simpa [insertCell] using h
  | cons d rest ih =>
    unfold insertCell at h
    split at h
    · simpa using h
    · rcases List.mem_cons.mp h with h | h
      · exact .inr (by simp [h])
      · rcases ih h with h | h
        · exact .inl h
        · exact .inr (by simp [h])

theorem cellsWf_insert (len a : Nat) (b : Byte) (l : List Host.Cell) (ha : a < len) (hb : b ≠ unlistedByte)
    (hl : cellsWf len l = true) (hne : ∀ c ∈ l, c.1 ≠ a) : cellsWf len (insertCell a b l) = true := by
  induction l with
  | nil => simp [insertCell, cellsWf, ha, hb]
  | cons c rest ih =>
    have hc := cellsWf_cons.mp hl
    unfold insertCell
    split
    · next hlt =>
      rw [cellsWf_cons]
      refine ⟨ha, hb, ?_, hl⟩
      intro d hd
      rcases List.mem_cons.mp hd with rfl | hd
      · exact hlt
      · exact lt_trans hlt (hc.2.2.1 d hd)
    · next hlt =>
      rw [cellsWf_cons]
      refine ⟨hc.1, hc.2.1, ?_, ih hc.2.2.2 fun d hd => hne d (by simp [hd])⟩
      intro d hd
      rcases mem_insertCell hd with rfl | hd
      · have := hne _ (List.mem_cons_self)
        simp only at this hlt ⊢
        omega
      · exact hc.2.2.1 d hd

theorem cellsWf_put (len a : Nat) (b : Byte) (l : List Host.Cell) (ha : a < len) (hl : cellsWf len l = true) :
    cellsWf len (putCell a b l) = true := by
  unfold putCell
  split
  · exact cellsWf_erase len a l hl
  · next hb => exact cellsWf_insert len a b _ ha hb (cellsWf_erase len a l hl) (eraseCell_ne a l)

/-! ## Bytes of one buffer -/

@[simp] theorem Buffer.writeByte_len (b : Buffer) (off : Nat) (v : Byte) : (b.writeByte off v).len = b.len := by
  unfold Buffer.writeByte
  split <;> rfl

theorem Buffer.readByte_writeByte_self (b : Buffer) (off : Nat) (v : Byte) (h : off < b.len.val) :
    (b.writeByte off v).readByte off = v := by
  simp [Buffer.writeByte, Buffer.readByte, h, findCell_put_self]

theorem Buffer.readByte_writeByte_other (b : Buffer) (off k : Nat) (v : Byte) (h : k ≠ off) :
    (b.writeByte off v).readByte k = b.readByte k := by
  unfold Buffer.writeByte Buffer.readByte
  split
  · simp [findCell_put_other off k v h]
  · rfl

theorem Buffer.writeByte_wf (b : Buffer) (off : Nat) (v : Byte) (h : b.wf = true) : (b.writeByte off v).wf = true := by
  unfold Buffer.writeByte
  split
  · next hlt =>
    exact cellsWf_put b.len.val off v b.cells hlt h
  · exact h

@[simp] theorem Buffer.writeBytes_len (b : Buffer) (off : Nat) (l : List Byte) : (b.writeBytes off l).len = b.len := by
  induction l generalizing b off with
  | nil => rfl
  | cons v rest ih => simp [Buffer.writeBytes, ih]

theorem Buffer.writeBytes_wf (b : Buffer) (off : Nat) (l : List Byte) (h : b.wf = true) : (b.writeBytes off l).wf = true := by
  induction l generalizing b off with
  | nil => exact h
  | cons v rest ih => exact ih _ _ (b.writeByte_wf off v h)

/-- A byte outside the written bytes reads as before. -/
theorem Buffer.readByte_writeBytes_outside (b : Buffer) (off k : Nat) (l : List Byte) (h : k < off ∨ off + l.length ≤ k) :
    (b.writeBytes off l).readByte k = b.readByte k := by
  induction l generalizing b off with
  | nil => rfl
  | cons v rest ih =>
    simp only [List.length_cons] at h
    rw [Buffer.writeBytes, ih _ _ (by omega), Buffer.readByte_writeByte_other _ _ _ _ (by omega)]

/-- A written byte reads as written. -/
theorem Buffer.readByte_writeBytes_inside (b : Buffer) (off j : Nat) (l : List Byte) (hj : j < l.length)
    (h : off + l.length ≤ b.len.val) : (b.writeBytes off l).readByte (off + j) = l[j] := by
  induction l generalizing b off j with
  | nil => simp at hj
  | cons v rest ih =>
    simp only [List.length_cons] at h hj
    cases j with
    | zero =>
      rw [Buffer.writeBytes, Buffer.readByte_writeBytes_outside _ _ _ _ (by omega)]
      exact Buffer.readByte_writeByte_self b off v (by omega)
    | succ j =>
      have := ih (b.writeByte off v) (off + 1) j (by omega) (by simp; omega)
      rw [Buffer.writeBytes, show off + (j + 1) = off + 1 + j by omega, this]
      rfl

@[simp] theorem toBytesBE_length (n : Nat) (v : Word) : (toBytesBE n v).length = n := by simp [toBytesBE]

theorem toBytesBE_getElem (n : Nat) (v : Word) (j : Nat) (h : j < (toBytesBE n v).length) :
    (toBytesBE n v)[j] = v.extractLsb' (8 * (n - 1 - j)) 8 := by simp [toBytesBE]

@[simp] theorem Buffer.memWrite_len (b : Buffer) (off n : Nat) (v : Word) : (b.memWrite off n v).len = b.len := by
  simp [Buffer.memWrite]

theorem Buffer.memWrite_wf (b : Buffer) (off n : Nat) (v : Word) (h : b.wf = true) : (b.memWrite off n v).wf = true :=
  b.writeBytes_wf off _ h

/-- What `MemWrite` does to each byte inside its range. -/
theorem Buffer.memWrite_inside (b : Buffer) (off n j : Nat) (v : Word) (hj : j < n) (h : off + n ≤ b.len.val) :
    (b.memWrite off n v).readByte (off + j) = v.extractLsb' (8 * (n - 1 - j)) 8 := by
  unfold Buffer.memWrite
  rw [Buffer.readByte_writeBytes_inside _ _ _ _ (by simpa using hj) (by simpa using h), toBytesBE_getElem]

/-- `MemWrite` changes no byte outside its range. -/
theorem Buffer.memWrite_outside (b : Buffer) (off n k : Nat) (v : Word) (h : k < off ∨ off + n ≤ k) :
    (b.memWrite off n v).readByte k = b.readByte k :=
  b.readByte_writeBytes_outside off k _ (by simpa using h)

/-! ## Big-endian values -/

theorem ofBytesBE_snoc (l : List Byte) (b : Byte) : ofBytesBE (l ++ [b]) = (ofBytesBE l <<< 8) ||| b.setWidth 32 := by
  simp [ofBytesBE]

@[simp] theorem ofBytesBE_nil : ofBytesBE [] = 0 := rfl

/-- Bit `i` of the value of up to four bytes is bit `i mod 8` of the byte `i / 8` places from the end. -/
theorem ofBytesBE_getLsbD (l : List Byte) (h : l.length ≤ 4) (i : Nat) :
    (ofBytesBE l).getLsbD i =
      (decide (i < 8 * l.length) && (l.getD (l.length - 1 - i / 8) 0).getLsbD (i % 8)) := by
  induction l using List.reverseRecOn generalizing i with
  | nil => simp
  | append_singleton l b ih =>
    simp only [List.length_append, List.length_cons, List.length_nil, Nat.zero_add] at h ⊢
    rw [ofBytesBE_snoc, BitVec.getLsbD_or, BitVec.getLsbD_shiftLeft, BitVec.getLsbD_setWidth, ih (by omega)]
    by_cases h8 : i < 8
    · have h1 : i / 8 = 0 := by omega
      have h2 : i % 8 = i := by omega
      have h3 : i < 32 := by omega
      have h4 : i < 8 * (l.length + 1) := by omega
      simp [h8, h1, h2, h3, h4, List.getD_eq_getElem?_getD]
    · have h1 : b.getLsbD i = false := BitVec.getLsbD_of_ge b i (by omega)
      have h2 : (i - 8) % 8 = i % 8 := by omega
      by_cases h4 : i < 8 * (l.length + 1)
      · have h3 : i < 32 := by omega
        have h5 : i - 8 < 8 * l.length := by omega
        have h6 : l.length - 1 - (i - 8) / 8 = l.length + 1 - 1 - i / 8 := by omega
        have h7 : l.length + 1 - 1 - i / 8 < l.length := by omega
        simp only [h8, h1, h2, h3, h4, h5, h6, List.getD_eq_getElem?_getD, List.getElem?_append_left h7]
        simp
      · have h5 : ¬ i - 8 < 8 * l.length := by omega
        simp [h1, h4, h5]

@[simp] theorem Buffer.readBytes_length (b : Buffer) (off n : Nat) : (b.readBytes off n).length = n := by
  simp [Buffer.readBytes]

/-- The bits of `MemRead` of up to four bytes, most significant byte first. -/
theorem Buffer.memRead_getLsbD (b : Buffer) (off n i : Nat) (h : n ≤ 4) :
    (b.memRead off n).getLsbD i =
      (decide (i < 8 * n) && (b.readByte (off + (n - 1 - i / 8))).getLsbD (i % 8)) := by
  unfold Buffer.memRead
  rw [ofBytesBE_getLsbD _ (by simpa using h)]
  by_cases hi : i < 8 * n
  · have : n - 1 - i / 8 < n := by omega
    simp [hi, Buffer.readBytes, List.getD_eq_getElem?_getD, this]
  · simp [hi]

/-- Reading big-endian bytes back gives the word they were made of. -/
theorem ofBytesBE_toBytesBE (v : Word) : ofBytesBE (toBytesBE 4 v) = v := by
  apply BitVec.eq_of_getLsbD_eq
  intro i hi
  rw [ofBytesBE_getLsbD _ (by simp)]
  have h1 : 4 - 1 - i / 8 < (toBytesBE 4 v).length := by simp; omega
  have h2 : 8 * (4 - 1 - (4 - 1 - i / 8)) + i % 8 = i := by omega
  have h3 : i % 8 < 8 := by omega
  simp only [toBytesBE_length, hi, List.getD_eq_getElem?_getD, List.getElem?_eq_getElem h1, Option.getD_some,
    toBytesBE_getElem, BitVec.getLsbD_extractLsb', h2, h3]
  simp [hi]

/-! ## Memory -/

@[simp] theorem Memory.setBuffer_length (m : Memory) (b : Nat) (buf : Buffer) :
    (m.setBuffer b buf).buffers.length = m.buffers.length := by simp [Memory.setBuffer]

theorem Memory.buffer_setBuffer_self (m : Memory) (b : Nat) (buf old : Buffer) (h : m.buffer b = some old) :
    (m.setBuffer b buf).buffer b = some buf := by
  obtain ⟨hlt, -⟩ := List.getElem?_eq_some_iff.mp h
  simp [Memory.setBuffer, Memory.buffer, hlt]

theorem Memory.buffer_setBuffer_other (m : Memory) (b k : Nat) (buf : Buffer) (h : k ≠ b) :
    (m.setBuffer b buf).buffer k = m.buffer k := by
  simp [Memory.setBuffer, Memory.buffer, Ne.symm h]

theorem Memory.setBuffer_lens (m : Memory) (b : Nat) (buf old : Buffer) (h : m.buffer b = some old)
    (hl : buf.len = old.len) : (m.setBuffer b buf).buffers.map Buffer.len = m.buffers.map Buffer.len := by
  obtain ⟨hlt, he⟩ := List.getElem?_eq_some_iff.mp h
  apply List.ext_getElem
  · simp
  · intro i h1 h2
    simp only [Memory.setBuffer, List.getElem_map, List.getElem_set]
    split
    · next hi => subst hi; simp [hl, he]
    · rfl

theorem Memory.wf_iff (m : Memory) :
    m.wf = true ↔ 1 ≤ m.buffers.length ∧ m.buffers.length ≤ 2 ^ 32 ∧ ∀ b ∈ m.buffers, b.wf = true := by
  simp [Memory.wf, and_assoc]

/-- Replacing an attached buffer by a canonical one keeps the canonical form. -/
theorem Memory.setBuffer_wf (m : Memory) (b : Nat) (buf : Buffer) (h : m.wf = true) (hb : buf.wf = true) :
    (m.setBuffer b buf).wf = true := by
  rw [Memory.wf_iff] at h ⊢
  refine ⟨by simpa using h.1, by simpa using h.2.1, fun c hc => ?_⟩
  rcases List.mem_or_eq_of_mem_set hc with hc | rfl
  · exact h.2.2 c hc
  · exact hb

theorem Memory.buffer_wf (m : Memory) (b : Nat) (buf : Buffer) (h : m.wf = true) (hb : m.buffer b = some buf) :
    buf.wf = true :=
  (Memory.wf_iff m).mp h |>.2.2 buf (List.mem_of_getElem? hb)

theorem Memory.bufLen_some {m : Memory} {b len : Nat} (h : m.bufLen b = some len) :
    ∃ buf, m.buffer b = some buf ∧ buf.len.val = len := by
  simpa [Memory.bufLen] using h

theorem Memory.byteAt_of_buffer (m : Memory) (b a : Nat) (buf : Buffer) (h : m.buffer b = some buf) (ha : a < buf.len.val) :
    m.byteAt b a = some (buf.readByte a) := by
  simp [Memory.byteAt, h, ha]

theorem resetMemory_wf : resetMemory.wf = true := by
  rw [Memory.wf_iff]
  refine ⟨by simp [resetMemory, defaultNbuf], by simp [resetMemory, defaultNbuf], fun b hb => ?_⟩
  simp only [resetMemory, List.mem_map] at hb
  obtain ⟨k, -, rfl⟩ := hb
  rfl

/-- A performed memory command keeps the canonical form. -/
theorem logicPerform_wf (k : LogicKind) (n : Nat) (s : State) (number : Nat) (buf : Buffer) (off : Nat) (mask : Word)
    (rd : Option RegNum) (h : s.mem.wf = true) (hb : s.mem.buffer number = some buf) :
    (logicPerform k n s number buf off mask rd).mem.wf = true := by
  simp only [logicPerform, State.finish_mem]
  exact s.mem.setBuffer_wf _ _ h (buf.memWrite_wf _ _ _ (s.mem.buffer_wf _ _ h hb))

/-! ## The parameter `EDGE_RULE` -/

/-- An access that a rule does not skip lies inside the buffer. -/
theorem EdgeRule.inside_of_not_skips {r : EdgeRule} {off : Int} {n len : Nat} (h : r.skips off n len = false) :
    0 ≤ off ∧ off + n ≤ len := by
  simp [EdgeRule.skips] at h
  omega

/-- An access that does not lie inside the buffer is skipped under every rule. -/
theorem EdgeRule.skips_of_outside (r : EdgeRule) {off : Int} {n len : Nat} (h : off < 0 ∨ (len : Int) < off + n) :
    r.skips off n len = true := by
  rcases h with h | h <;> simp [EdgeRule.skips, h]

/-! ## The host's accesses -/

/-- What attaching one byte list gives. -/
theorem Buffer.ofBytes_eq_some {bytes : List Byte} {b : Buffer} (h : Buffer.ofBytes bytes = some b) :
    b.len.val = bytes.length ∧ b.wf = true ∧ ∀ off (ho : off < bytes.length), b.readByte off = bytes[off] := by
  unfold Buffer.ofBytes at h
  split at h
  · next hlt =>
    cases h
    refine ⟨by simp, Buffer.writeBytes_wf _ _ _ rfl, fun off ho => ?_⟩
    have := Buffer.readByte_writeBytes_inside ⟨⟨bytes.length, hlt⟩, []⟩ 0 off bytes ho (by simp)
    simpa using this
  · cases h

theorem Buffer.ofBytes_isSome (bytes : List Byte) : (Buffer.ofBytes bytes).isSome = decide (bytes.length < 2 ^ 31) := by
  unfold Buffer.ofBytes
  split
  · next h => rw [decide_eq_true h]; rfl
  · next h => rw [decide_eq_false h]; rfl

/-- What attaching a list of byte lists gives, buffer by buffer. -/
theorem buffersOfBytes_eq_some {contents : List (List Byte)} {bs : List Buffer} (h : buffersOfBytes contents = some bs) :
    bs.length = contents.length ∧
    ∀ i : Nat, (bs[i]? = none ∧ contents[i]? = none) ∨
      ∃ b bytes, bs[i]? = some b ∧ contents[i]? = some bytes ∧ Buffer.ofBytes bytes = some b := by
  induction contents generalizing bs with
  | nil =>
    cases h
    exact ⟨rfl, fun i => .inl ⟨rfl, rfl⟩⟩
  | cons bytes rest ih =>
    unfold buffersOfBytes at h
    split at h
    · next b bs' hb hbs =>
      cases h
      obtain ⟨hl, hi⟩ := ih hbs
      refine ⟨by simp [hl], fun i => ?_⟩
      cases i with
      | zero => exact .inr ⟨b, bytes, rfl, rfl, hb⟩
      | succ i => simpa using hi i
    · cases h

/-- Attaching succeeds exactly when no list is too long. -/
theorem buffersOfBytes_isSome (contents : List (List Byte)) :
    (buffersOfBytes contents).isSome = contents.all fun bytes => decide (bytes.length < 2 ^ 31) := by
  induction contents with
  | nil => rfl
  | cons bytes rest ih =>
    have h := Buffer.ofBytes_isSome bytes
    unfold buffersOfBytes
    rw [List.all_cons, ← ih, ← h]
    cases Buffer.ofBytes bytes <;> cases buffersOfBytes rest <;> rfl

/-- When the host attaches buffers, and what that does. -/
theorem State.attach_eq_some {s t : State} {contents : List (List Byte)} (h : s.attach contents = some t) :
    s.rsp.valid = false ∧ 1 ≤ contents.length ∧ contents.length ≤ 2 ^ 32 ∧
    ∃ bs, buffersOfBytes contents = some bs ∧ t = { s with mem := ⟨bs⟩ } := by
  unfold State.attach at h
  split at h
  · cases h
  · next hv =>
    split at h
    · next hl =>
      obtain ⟨bs, hbs, ht⟩ := Option.map_eq_some_iff.mp h
      exact ⟨by simpa using hv, hl.1, hl.2, bs, hbs, ht.symm⟩
    · cases h

/-- The host's write keeps the canonical form. -/
theorem State.hostWrite_wf (s : State) (b off : Nat) (v : Byte) (h : s.mem.wf = true) : (s.hostWrite b off v).mem.wf = true := by
  unfold State.hostWrite
  split
  · exact h
  · next buf hb => exact s.mem.setBuffer_wf _ _ h (buf.writeByte_wf _ _ (s.mem.buffer_wf _ _ h hb))

end Sys2Proof.Machine
end

