-- ==== Sys2Proof/Laws/Decode.lean ====
section
/-! SUPPORT. The control word and its fields are the same data; opcode bytes and opcodes likewise; the stored bytes of a
record give it back. -/

namespace Sys2Proof

theorem Control.toWord_getLsbD (c : Control) (i : Nat) (hi : i < 32) :
    c.toWord.getLsbD i =
      (if i < 14 then c.reserved.getLsbD i else if i < 18 then (BitVec.ofNat 4 c.rd.val).getLsbD (i - 14)
       else if i = 18 then c.wb else if i = 19 then c.s3 else if i = 20 then c.s2 else if i = 21 then c.s1
       else if i < 24 then c.sz.getLsbD (i - 22) else c.op.getLsbD (i - 24)) := by
  unfold Control.toWord
  simp only [BitVec.getLsbD_append, BitVec.getLsbD_ofBool]
  rcases Nat.lt_or_ge i 14 with h | h
  · simp [h]
  rcases Nat.lt_or_ge i 18 with h' | h'
  · simp [show ¬ i < 14 by omega, show i < 18 by omega, show i - 14 < 4 by omega]
  · have : i = 18 ∨ i = 19 ∨ i = 20 ∨ i = 21 ∨ i = 22 ∨ i = 23 ∨ i = 24 ∨ i = 25 ∨ i = 26 ∨ i = 27 ∨ i = 28 ∨ i = 29 ∨
        i = 30 ∨ i = 31 := by omega
    rcases this with rfl | rfl | rfl | rfl | rfl | rfl | rfl | rfl | rfl | rfl | rfl | rfl | rfl | rfl <;> simp

/-- Reading the fields of a control word made of fields gives the fields. -/
theorem Control.ofWord_toWord (c : Control) : Control.ofWord c.toWord = c := by
  obtain ⟨op, sz, s1, s2, s3, wb, rd, reserved⟩ := c
  simp only [Control.ofWord, Control.mk.injEq]
  refine ⟨?_, ?_, ?_, ?_, ?_, ?_, ?_, ?_⟩
  · apply BitVec.eq_of_getLsbD_eq; intro i hi
    rw [BitVec.getLsbD_extractLsb', Control.toWord_getLsbD _ _ (by omega)]
    simp [hi, show ¬ 24 + i < 14 by omega, show ¬ 24 + i < 18 by omega, show ¬ 24 + i = 18 by omega,
      show ¬ 24 + i = 19 by omega, show ¬ 24 + i = 20 by omega, show ¬ 24 + i = 21 by omega]
  · apply BitVec.eq_of_getLsbD_eq; intro i hi
    rw [BitVec.getLsbD_extractLsb', Control.toWord_getLsbD _ _ (by omega)]
    simp [hi, show ¬ 22 + i < 14 by omega, show ¬ 22 + i < 18 by omega, show ¬ 22 + i = 18 by omega,
      show ¬ 22 + i = 19 by omega, show ¬ 22 + i = 20 by omega, show ¬ 22 + i = 21 by omega, show 22 + i < 24 by omega]
  · rw [Control.toWord_getLsbD _ _ (by omega)]; rfl
  · rw [Control.toWord_getLsbD _ _ (by omega)]; rfl
  · rw [Control.toWord_getLsbD _ _ (by omega)]; rfl
  · rw [Control.toWord_getLsbD _ _ (by omega)]; rfl
  · apply Fin.ext
    have : BitVec.extractLsb' 14 4 (Control.toWord ⟨op, sz, s1, s2, s3, wb, rd, reserved⟩) = BitVec.ofNat 4 rd.val := by
      apply BitVec.eq_of_getLsbD_eq; intro i hi
      rw [BitVec.getLsbD_extractLsb', Control.toWord_getLsbD _ _ (by omega)]
      simp [hi, show ¬ 14 + i < 14 by omega, show 14 + i < 18 by omega]
    simp only [this, BitVec.toNat_ofNat]
    exact Nat.mod_eq_of_lt rd.isLt
  · apply BitVec.eq_of_getLsbD_eq; intro i hi
    rw [BitVec.getLsbD_extractLsb', Control.toWord_getLsbD _ _ (by omega)]
    simp [hi]

/-- A control word is made of its fields. -/
theorem Control.toWord_ofWord (w : Word) : (Control.ofWord w).toWord = w := by
  apply BitVec.eq_of_getLsbD_eq
  intro i hi
  rw [Control.toWord_getLsbD _ _ hi]
  simp only [Control.ofWord, BitVec.ofNat_toNat, BitVec.setWidth_eq, BitVec.getLsbD_extractLsb']
  split
  · next h => simp [h]
  split
  · next h h' => simp [show i - 14 < 4 by omega, show 14 + (i - 14) = i by omega]
  split
  · next h => rw [h]
  split
  · next h => rw [h]
  split
  · next h => rw [h]
  split
  · next h => rw [h]
  split
  · simp [show i - 22 < 2 by omega, show 22 + (i - 22) = i by omega]
  · simp [show i - 24 < 8 by omega, show 24 + (i - 24) = i by omega]

/-- The byte of an opcode selects that opcode. -/
theorem Opcode.ofByte_toByte (o : Opcode) : Opcode.ofByte o.toByte = some o := by
  cases o with
  | db c => cases c <;> rfl
  | logic k => cases k <;> rfl
  | shift k => cases k <;> rfl
  | _ => rfl

/-- An assigned byte is its opcode's. -/
theorem Opcode.toByte_ofByte (b : BitVec 8) (o : Opcode) (h : Opcode.ofByte b = some o) : o.toByte = b := by
  have key : ∀ b : BitVec 8, (match Opcode.ofByte b with | some o => decide (o.toByte = b) | none => true) = true := by
    decide +revert
  have := key b
  rw [h] at this
  simpa using this

/-- The stored bytes of a record give it back, with what follows it. -/
theorem Record.ofBytes_toBytes (r : Record) (rest : List Byte) : Record.ofBytes (r.toBytes ++ rest) = some (r, rest) := by
  have h4 : ∀ v : Word, (toBytesBE 4 v).length = 4 := fun v => Machine.toBytesBE_length 4 v
  have hl : (r.toBytes ++ rest).length = 16 + rest.length := by
    simp only [Record.toBytes, List.length_append, h4]
  have e1 : (r.toBytes ++ rest).take 4 = toBytesBE 4 r.cw := by
    simp only [Record.toBytes, List.append_assoc]; exact List.take_left' (h4 _)
  have d1 : (r.toBytes ++ rest).drop 4 = toBytesBE 4 r.op1 ++ (toBytesBE 4 r.op2 ++ (toBytesBE 4 r.op3 ++ rest)) := by
    simp only [Record.toBytes, List.append_assoc]; exact List.drop_left' (h4 _)
  have d2 : (r.toBytes ++ rest).drop 8 = toBytesBE 4 r.op2 ++ (toBytesBE 4 r.op3 ++ rest) := by
    rw [show 8 = 4 + 4 from rfl, ← List.drop_drop, d1]; exact List.drop_left' (h4 _)
  have d3 : (r.toBytes ++ rest).drop 12 = toBytesBE 4 r.op3 ++ rest := by
    rw [show 12 = 8 + 4 from rfl, ← List.drop_drop, d2]; exact List.drop_left' (h4 _)
  have d4 : (r.toBytes ++ rest).drop 16 = rest := by
    rw [show 16 = 12 + 4 from rfl, ← List.drop_drop, d3]; exact List.drop_left' (h4 _)
  have hge : 16 ≤ (r.toBytes ++ rest).length := by omega
  simp only [Record.ofBytes, if_pos hge, e1, d1, d2, d3, d4, List.take_left' (h4 _), Machine.ofBytesBE_toBytesBE]

/-- What decoding can answer, said once. -/
theorem decode_cases (r : Record) :
    (Opcode.ofByte (Control.ofWord r.cw).op = none ∧ decode r = .error .illegalOpcode) ∨
    ∃ o, Opcode.ofByte (Control.ofWord r.cw).op = some o ∧
      ((o.sizeOk (Control.ofWord r.cw).sz = false ∧ decode r = .error .illegalSize) ∨
       (o.sizeOk (Control.ofWord r.cw).sz = true ∧ o.fieldsOk (Control.ofWord r.cw) = false ∧
         decode r = .error .illegalField) ∨
       (o.sizeOk (Control.ofWord r.cw).sz = true ∧ o.fieldsOk (Control.ofWord r.cw) = true ∧
         decode r = .ok (o.build (Control.ofWord r.cw) r))) := by
  unfold decode
  cases ho : Opcode.ofByte (Control.ofWord r.cw).op with
  | none => exact .inl ⟨rfl, by simp [ho]⟩
  | some o =>
    refine .inr ⟨o, rfl, ?_⟩
    cases hs : o.sizeOk (Control.ofWord r.cw).sz with
    | false => exact .inl ⟨rfl, by simp [ho, hs]⟩
    | true =>
      cases hf : o.fieldsOk (Control.ofWord r.cw) with
      | false => exact .inr (.inl ⟨rfl, rfl, by simp [ho, hs, hf]⟩)
      | true => exact .inr (.inr ⟨rfl, rfl, by simp [ho, hs, hf]⟩)

/-- Selecting by an operand's own select bit and word gives the operand back. -/
theorem Src.select_isReg (a : Src) : Src.select a.isReg a.word = a := by cases a <;> rfl

/-- A record whose control word is made of fields that pass the checks decodes to what its opcode builds. -/
theorem decode_of_fields (o : Opcode) (c : Control) (r : Record) (hcw : r.cw = c.toWord) (hop : c.op = o.toByte)
    (hs : o.sizeOk c.sz = true) (hf : o.fieldsOk c = true) : decode r = .ok (o.build c r) := by
  unfold decode
  simp only [hcw, Control.ofWord_toWord, hop, Opcode.ofByte_toByte, hs, hf]
  simp

end Sys2Proof
end

