-- ==== Sys2Proof/Laws/PerInstr.lean ====
section
/-! SUPPORT. Statements made once per constructor of `Instr`. Family `EncodeMatchesRow`: the control word the encoder writes
for an instruction matches that instruction's own row of the opcode table under the row's mask. -/

namespace Sys2Proof.Laws

open Sys2Proof Sys2Proof.Safety

/-- The encoded control word of an instruction matches the row of its mnemonic. -/
def EncodeMatchesRow.Statement (i : Instr) : Prop :=
  ∃ row ∈ opcodeRows, row.1 = i.mnemonic ∧ (encode i).cw &&& row.2.2 = row.2.1

/-- The mask of a row: opcode, size and reserved bits fixed, `RD` free, and each select bit and `WB` as given. -/
def rowMask (s1 s2 s3 wb : Bool) : Word := Control.toWord ⟨0xFF, 3, s1, s2, s3, wb, 0, 0x3FFF⟩

/-- A control word masked so is its opcode and size alone, where every fixed bit is 0. -/
theorem toWord_and_rowMask (c : Control) (s1 s2 s3 wb : Bool) (hr : c.reserved = 0) (h1 : (c.s1 && s1) = false)
    (h2 : (c.s2 && s2) = false) (h3 : (c.s3 && s3) = false) (hw : (c.wb && wb) = false) :
    c.toWord &&& rowMask s1 s2 s3 wb = Control.toWord ⟨c.op, c.sz, false, false, false, false, 0, 0⟩ := by
  apply BitVec.eq_of_getLsbD_eq
  intro i hi
  rw [BitVec.getLsbD_and, rowMask, Control.toWord_getLsbD _ _ hi, Control.toWord_getLsbD _ _ hi, Control.toWord_getLsbD _ _ hi]
  simp only [hr]
  have hop : ∀ j, j < 8 → (0xFF#8).getLsbD j = true := by decide
  have hsz : ∀ j, j < 2 → (3#2).getLsbD j = true := by decide
  split
  · simp
  split
  · simp
  split
  · exact hw
  split
  · exact h3
  split
  · exact h2
  split
  · exact h1
  split
  · rw [show (3 : BitVec 2) = 3#2 from rfl, hsz _ (by omega), Bool.and_true]
  · rw [show (0xFF : BitVec 8) = 0xFF#8 from rfl, hop _ (by omega), Bool.and_true]

/-- The masked control word of `encodeWith`. -/
theorem encodeWith_masked (o : Opcode) (sz : BitVec 2) (a b c : Src) (rd : Option RegNum) (s1 s2 s3 wb : Bool)
    (h1 : (a.isReg && s1) = false) (h2 : (b.isReg && s2) = false) (h3 : (c.isReg && s3) = false)
    (hw : (rd.isSome && wb) = false) :
    (encodeWith o sz a b c rd).cw &&& rowMask s1 s2 s3 wb = Control.toWord ⟨o.toByte, sz, false, false, false, false, 0, 0⟩ :=
  toWord_and_rowMask _ s1 s2 s3 wb rfl h1 h2 h3 hw

/-- The masked control word of `encodeDb`. -/
theorem encodeDb_masked (k : Cond) (counter : RegNum) (disp : Word) :
    (encodeDb k counter disp).cw &&& rowMask true true true true =
      Control.toWord ⟨(Opcode.db k).toByte, 0, false, false, false, false, 0, 0⟩ :=
  toWord_and_rowMask _ true true true true rfl rfl rfl rfl rfl

/-- A statement from its row, written with the mask's bits. -/
theorem encodeMatchesRow_of_row {i : Instr} (row : String × Word × Word) (s1 s2 s3 wb : Bool) (w : Word)
    (hmem : row ∈ opcodeRows) (hname : row.1 = i.mnemonic) (hmask : row.2.2 = rowMask s1 s2 s3 wb) (hval : row.2.1 = w)
    (h : (encode i).cw &&& rowMask s1 s2 s3 wb = w) : EncodeMatchesRow.Statement i :=
  ⟨row, hmem, hname, by rw [hmask, hval]; exact h⟩

theorem EncodeMatchesRow.rmov (src : Src) (rd : Option RegNum) : EncodeMatchesRow.Statement (.rmov src rd) :=
  encodeMatchesRow_of_row ("rmov", 0x10000000, 0xFFD83FFF) false true true false _ (by decide) rfl (by decide) (by decide)
    (encodeWith_masked _ _ _ _ _ _ _ _ _ _ (Bool.and_false _) rfl rfl (Bool.and_false _))

theorem EncodeMatchesRow.radd (a b : Src) (rd : Option RegNum) : EncodeMatchesRow.Statement (.radd a b rd) :=
  encodeMatchesRow_of_row ("radd", 0x12000000, 0xFFC83FFF) false false true false _ (by decide) rfl (by decide) (by decide)
    (encodeWith_masked _ _ _ _ _ _ _ _ _ _ (Bool.and_false _) (Bool.and_false _) rfl (Bool.and_false _))

theorem EncodeMatchesRow.flgget (flag : Word) (rd : Option RegNum) : EncodeMatchesRow.Statement (.flgget flag rd) :=
  encodeMatchesRow_of_row ("flgget", 0x14000000, 0xFFF83FFF) true true true false _ (by decide) rfl (by decide) (by decide)
    (encodeWith_masked _ _ _ _ _ _ _ _ _ _ rfl rfl rfl (Bool.and_false _))

theorem EncodeMatchesRow.flgset (flag : Word) (src : Src) : EncodeMatchesRow.Statement (.flgset flag src) :=
  encodeMatchesRow_of_row ("flgset", 0x15000000, 0xFFEC3FFF) true false true true _ (by decide) rfl (by decide) (by decide)
    (encodeWith_masked _ _ _ _ _ _ _ _ _ _ rfl (Bool.and_false _) rfl rfl)

theorem EncodeMatchesRow.dbt (counter : RegNum) (disp : Word) : EncodeMatchesRow.Statement (.dbt counter disp) :=
  encodeMatchesRow_of_row ("dbt", 0x50000000, 0xFFFC3FFF) true true true true _ (by decide) rfl (by decide) (by decide)
    (encodeDb_masked _ _ _)

theorem EncodeMatchesRow.dbra (counter : RegNum) (disp : Word) : EncodeMatchesRow.Statement (.dbra counter disp) :=
  encodeMatchesRow_of_row ("dbra", 0x51000000, 0xFFFC3FFF) true true true true _ (by decide) rfl (by decide) (by decide)
    (encodeDb_masked _ _ _)

theorem EncodeMatchesRow.dbhi (counter : RegNum) (disp : Word) : EncodeMatchesRow.Statement (.dbhi counter disp) :=
  encodeMatchesRow_of_row ("dbhi", 0x52000000, 0xFFFC3FFF) true true true true _ (by decide) rfl (by decide) (by decide)
    (encodeDb_masked _ _ _)

theorem EncodeMatchesRow.dbls (counter : RegNum) (disp : Word) : EncodeMatchesRow.Statement (.dbls counter disp) :=
  encodeMatchesRow_of_row ("dbls", 0x53000000, 0xFFFC3FFF) true true true true _ (by decide) rfl (by decide) (by decide)
    (encodeDb_masked _ _ _)

theorem EncodeMatchesRow.dbcc (counter : RegNum) (disp : Word) : EncodeMatchesRow.Statement (.dbcc counter disp) :=
  encodeMatchesRow_of_row ("dbcc", 0x54000000, 0xFFFC3FFF) true true true true _ (by decide) rfl (by decide) (by decide)
    (encodeDb_masked _ _ _)

theorem EncodeMatchesRow.dbcs (counter : RegNum) (disp : Word) : EncodeMatchesRow.Statement (.dbcs counter disp) :=
  encodeMatchesRow_of_row ("dbcs", 0x55000000, 0xFFFC3FFF) true true true true _ (by decide) rfl (by decide) (by decide)
    (encodeDb_masked _ _ _)

theorem EncodeMatchesRow.dbne (counter : RegNum) (disp : Word) : EncodeMatchesRow.Statement (.dbne counter disp) :=
  encodeMatchesRow_of_row ("dbne", 0x56000000, 0xFFFC3FFF) true true true true _ (by decide) rfl (by decide) (by decide)
    (encodeDb_masked _ _ _)

theorem EncodeMatchesRow.dbeq (counter : RegNum) (disp : Word) : EncodeMatchesRow.Statement (.dbeq counter disp) :=
  encodeMatchesRow_of_row ("dbeq", 0x57000000, 0xFFFC3FFF) true true true true _ (by decide) rfl (by decide) (by decide)
    (encodeDb_masked _ _ _)

theorem EncodeMatchesRow.dbvc (counter : RegNum) (disp : Word) : EncodeMatchesRow.Statement (.dbvc counter disp) :=
  encodeMatchesRow_of_row ("dbvc", 0x58000000, 0xFFFC3FFF) true true true true _ (by decide) rfl (by decide) (by decide)
    (encodeDb_masked _ _ _)

theorem EncodeMatchesRow.dbvs (counter : RegNum) (disp : Word) : EncodeMatchesRow.Statement (.dbvs counter disp) :=
  encodeMatchesRow_of_row ("dbvs", 0x59000000, 0xFFFC3FFF) true true true true _ (by decide) rfl (by decide) (by decide)
    (encodeDb_masked _ _ _)

theorem EncodeMatchesRow.dbpl (counter : RegNum) (disp : Word) : EncodeMatchesRow.Statement (.dbpl counter disp) :=
  encodeMatchesRow_of_row ("dbpl", 0x5A000000, 0xFFFC3FFF) true true true true _ (by decide) rfl (by decide) (by decide)
    (encodeDb_masked _ _ _)

theorem EncodeMatchesRow.dbmi (counter : RegNum) (disp : Word) : EncodeMatchesRow.Statement (.dbmi counter disp) :=
  encodeMatchesRow_of_row ("dbmi", 0x5B000000, 0xFFFC3FFF) true true true true _ (by decide) rfl (by decide) (by decide)
    (encodeDb_masked _ _ _)

theorem EncodeMatchesRow.dbge (counter : RegNum) (disp : Word) : EncodeMatchesRow.Statement (.dbge counter disp) :=
  encodeMatchesRow_of_row ("dbge", 0x5C000000, 0xFFFC3FFF) true true true true _ (by decide) rfl (by decide) (by decide)
    (encodeDb_masked _ _ _)

theorem EncodeMatchesRow.dblt (counter : RegNum) (disp : Word) : EncodeMatchesRow.Statement (.dblt counter disp) :=
  encodeMatchesRow_of_row ("dblt", 0x5D000000, 0xFFFC3FFF) true true true true _ (by decide) rfl (by decide) (by decide)
    (encodeDb_masked _ _ _)

theorem EncodeMatchesRow.dbgt (counter : RegNum) (disp : Word) : EncodeMatchesRow.Statement (.dbgt counter disp) :=
  encodeMatchesRow_of_row ("dbgt", 0x5E000000, 0xFFFC3FFF) true true true true _ (by decide) rfl (by decide) (by decide)
    (encodeDb_masked _ _ _)

theorem EncodeMatchesRow.dble (counter : RegNum) (disp : Word) : EncodeMatchesRow.Statement (.dble counter disp) :=
  encodeMatchesRow_of_row ("dble", 0x5F000000, 0xFFFC3FFF) true true true true _ (by decide) rfl (by decide) (by decide)
    (encodeDb_masked _ _ _)

theorem EncodeMatchesRow.orB (offset value : Src) (buffer : Word) (rd : Option RegNum) : EncodeMatchesRow.Statement (.orB offset value buffer rd) :=
  encodeMatchesRow_of_row ("or_b", 0x80000000, 0xFFC83FFF) false false true false _ (by decide) rfl (by decide) (by decide)
    (encodeWith_masked _ _ _ _ _ _ _ _ _ _ (Bool.and_false _) (Bool.and_false _) rfl (Bool.and_false _))

theorem EncodeMatchesRow.orW (offset value : Src) (buffer : Word) (rd : Option RegNum) : EncodeMatchesRow.Statement (.orW offset value buffer rd) :=
  encodeMatchesRow_of_row ("or_w", 0x80400000, 0xFFC83FFF) false false true false _ (by decide) rfl (by decide) (by decide)
    (encodeWith_masked _ _ _ _ _ _ _ _ _ _ (Bool.and_false _) (Bool.and_false _) rfl (Bool.and_false _))

theorem EncodeMatchesRow.orL (offset value : Src) (buffer : Word) (rd : Option RegNum) : EncodeMatchesRow.Statement (.orL offset value buffer rd) :=
  encodeMatchesRow_of_row ("or_l", 0x80800000, 0xFFC83FFF) false false true false _ (by decide) rfl (by decide) (by decide)
    (encodeWith_masked _ _ _ _ _ _ _ _ _ _ (Bool.and_false _) (Bool.and_false _) rfl (Bool.and_false _))

theorem EncodeMatchesRow.andB (offset value : Src) (buffer : Word) (rd : Option RegNum) : EncodeMatchesRow.Statement (.andB offset value buffer rd) :=
  encodeMatchesRow_of_row ("and_b", 0xC0000000, 0xFFC83FFF) false false true false _ (by decide) rfl (by decide) (by decide)
    (encodeWith_masked _ _ _ _ _ _ _ _ _ _ (Bool.and_false _) (Bool.and_false _) rfl (Bool.and_false _))

theorem EncodeMatchesRow.andW (offset value : Src) (buffer : Word) (rd : Option RegNum) : EncodeMatchesRow.Statement (.andW offset value buffer rd) :=
  encodeMatchesRow_of_row ("and_w", 0xC0400000, 0xFFC83FFF) false false true false _ (by decide) rfl (by decide) (by decide)
    (encodeWith_masked _ _ _ _ _ _ _ _ _ _ (Bool.and_false _) (Bool.and_false _) rfl (Bool.and_false _))

theorem EncodeMatchesRow.andL (offset value : Src) (buffer : Word) (rd : Option RegNum) : EncodeMatchesRow.Statement (.andL offset value buffer rd) :=
  encodeMatchesRow_of_row ("and_l", 0xC0800000, 0xFFC83FFF) false false true false _ (by decide) rfl (by decide) (by decide)
    (encodeWith_masked _ _ _ _ _ _ _ _ _ _ (Bool.and_false _) (Bool.and_false _) rfl (Bool.and_false _))

theorem EncodeMatchesRow.offs (stride x y : Src) (rd : Option RegNum) : EncodeMatchesRow.Statement (.offs stride x y rd) :=
  encodeMatchesRow_of_row ("offs", 0xA0000000, 0xFFC03FFF) false false false false _ (by decide) rfl (by decide) (by decide)
    (encodeWith_masked _ _ _ _ _ _ _ _ _ _ (Bool.and_false _) (Bool.and_false _) (Bool.and_false _) (Bool.and_false _))

theorem EncodeMatchesRow.offsHdr (stride x y : Src) (rd : Option RegNum) : EncodeMatchesRow.Statement (.offsHdr stride x y rd) :=
  encodeMatchesRow_of_row ("offs_hdr", 0xA1000000, 0xFFC03FFF) false false false false _ (by decide) rfl (by decide) (by decide)
    (encodeWith_masked _ _ _ _ _ _ _ _ _ _ (Bool.and_false _) (Bool.and_false _) (Bool.and_false _) (Bool.and_false _))

theorem EncodeMatchesRow.asrW (value count : Src) (rd : Option RegNum) : EncodeMatchesRow.Statement (.asrW value count rd) :=
  encodeMatchesRow_of_row ("asr_w", 0xE0400000, 0xFFC83FFF) false false true false _ (by decide) rfl (by decide) (by decide)
    (encodeWith_masked _ _ _ _ _ _ _ _ _ _ (Bool.and_false _) (Bool.and_false _) rfl (Bool.and_false _))

theorem EncodeMatchesRow.asrL (value count : Src) (rd : Option RegNum) : EncodeMatchesRow.Statement (.asrL value count rd) :=
  encodeMatchesRow_of_row ("asr_l", 0xE0800000, 0xFFC83FFF) false false true false _ (by decide) rfl (by decide) (by decide)
    (encodeWith_masked _ _ _ _ _ _ _ _ _ _ (Bool.and_false _) (Bool.and_false _) rfl (Bool.and_false _))

theorem EncodeMatchesRow.aslW (value count : Src) (rd : Option RegNum) : EncodeMatchesRow.Statement (.aslW value count rd) :=
  encodeMatchesRow_of_row ("asl_w", 0xE1400000, 0xFFC83FFF) false false true false _ (by decide) rfl (by decide) (by decide)
    (encodeWith_masked _ _ _ _ _ _ _ _ _ _ (Bool.and_false _) (Bool.and_false _) rfl (Bool.and_false _))

theorem EncodeMatchesRow.aslL (value count : Src) (rd : Option RegNum) : EncodeMatchesRow.Statement (.aslL value count rd) :=
  encodeMatchesRow_of_row ("asl_l", 0xE1800000, 0xFFC83FFF) false false true false _ (by decide) rfl (by decide) (by decide)
    (encodeWith_masked _ _ _ _ _ _ _ _ _ _ (Bool.and_false _) (Bool.and_false _) rfl (Bool.and_false _))

theorem EncodeMatchesRow.lsrW (value count : Src) (rd : Option RegNum) : EncodeMatchesRow.Statement (.lsrW value count rd) :=
  encodeMatchesRow_of_row ("lsr_w", 0xE2400000, 0xFFC83FFF) false false true false _ (by decide) rfl (by decide) (by decide)
    (encodeWith_masked _ _ _ _ _ _ _ _ _ _ (Bool.and_false _) (Bool.and_false _) rfl (Bool.and_false _))

theorem EncodeMatchesRow.lsrL (value count : Src) (rd : Option RegNum) : EncodeMatchesRow.Statement (.lsrL value count rd) :=
  encodeMatchesRow_of_row ("lsr_l", 0xE2800000, 0xFFC83FFF) false false true false _ (by decide) rfl (by decide) (by decide)
    (encodeWith_masked _ _ _ _ _ _ _ _ _ _ (Bool.and_false _) (Bool.and_false _) rfl (Bool.and_false _))

theorem EncodeMatchesRow.lslW (value count : Src) (rd : Option RegNum) : EncodeMatchesRow.Statement (.lslW value count rd) :=
  encodeMatchesRow_of_row ("lsl_w", 0xE3400000, 0xFFC83FFF) false false true false _ (by decide) rfl (by decide) (by decide)
    (encodeWith_masked _ _ _ _ _ _ _ _ _ _ (Bool.and_false _) (Bool.and_false _) rfl (Bool.and_false _))

theorem EncodeMatchesRow.lslL (value count : Src) (rd : Option RegNum) : EncodeMatchesRow.Statement (.lslL value count rd) :=
  encodeMatchesRow_of_row ("lsl_l", 0xE3800000, 0xFFC83FFF) false false true false _ (by decide) rfl (by decide) (by decide)
    (encodeWith_masked _ _ _ _ _ _ _ _ _ _ (Bool.and_false _) (Bool.and_false _) rfl (Bool.and_false _))

theorem EncodeMatchesRow.rorW (value count : Src) (rd : Option RegNum) : EncodeMatchesRow.Statement (.rorW value count rd) :=
  encodeMatchesRow_of_row ("ror_w", 0xE6400000, 0xFFC83FFF) false false true false _ (by decide) rfl (by decide) (by decide)
    (encodeWith_masked _ _ _ _ _ _ _ _ _ _ (Bool.and_false _) (Bool.and_false _) rfl (Bool.and_false _))

theorem EncodeMatchesRow.rorL (value count : Src) (rd : Option RegNum) : EncodeMatchesRow.Statement (.rorL value count rd) :=
  encodeMatchesRow_of_row ("ror_l", 0xE6800000, 0xFFC83FFF) false false true false _ (by decide) rfl (by decide) (by decide)
    (encodeWith_masked _ _ _ _ _ _ _ _ _ _ (Bool.and_false _) (Bool.and_false _) rfl (Bool.and_false _))

theorem EncodeMatchesRow.rolW (value count : Src) (rd : Option RegNum) : EncodeMatchesRow.Statement (.rolW value count rd) :=
  encodeMatchesRow_of_row ("rol_w", 0xE7400000, 0xFFC83FFF) false false true false _ (by decide) rfl (by decide) (by decide)
    (encodeWith_masked _ _ _ _ _ _ _ _ _ _ (Bool.and_false _) (Bool.and_false _) rfl (Bool.and_false _))

theorem EncodeMatchesRow.rolL (value count : Src) (rd : Option RegNum) : EncodeMatchesRow.Statement (.rolL value count rd) :=
  encodeMatchesRow_of_row ("rol_l", 0xE7800000, 0xFFC83FFF) false false true false _ (by decide) rfl (by decide) (by decide)
    (encodeWith_masked _ _ _ _ _ _ _ _ _ _ (Bool.and_false _) (Bool.and_false _) rfl (Bool.and_false _))

end Sys2Proof.Laws
end

