-- ==== Sys2Proof/Laws/Step.lean ====
section
/-! SUPPORT. What `exec`, `issue` and `step` can answer, said once. -/

namespace Sys2Proof.Machine

/-- What an instruction can do: be answered while faulted, raise a cause, or have its effect. -/
theorem exec_next_cases {i : Instr} {s t : State} (h : exec i s = .next t) :
    (s.fault = true ∧ t = s.answerFaulted) ∨
    (s.fault = false ∧ ∃ c, effectOf i s = .error c ∧ t = s.raise c) ∨
    (s.fault = false ∧ effectOf i s = .ok t) := by
  rw [exec_eq] at h
  injection h with h
  rcases s.settle_cases (effectOf i s) with ⟨hf, hs⟩ | ⟨hf, c, hc, hs⟩ | ⟨hf, u, hu, hs⟩
  · exact .inl ⟨hf, by rw [← h, hs]⟩
  · exact .inr (.inl ⟨hf, c, hc, by rw [← h, hs]⟩)
  · exact .inr (.inr ⟨hf, by rw [hu, ← h, hs]⟩)

/-- A record that decodes is issued as its instruction. -/
theorem State.issue_of_ok (s : State) {r : Record} {i : Instr} (h : decode r = .ok i) : s.issue r = exec i s := by
  unfold State.issue
  rw [h]

/-- A record that does not decode raises its cause. -/
theorem State.issue_of_error (s : State) {r : Record} {c : Cause} (hf : s.fault = false) (h : decode r = .error c) :
    s.issue r = .next (s.raise c) := by
  unfold State.issue
  rw [h]
  simp [State.command_eq, hf]

/-- With `FAULT` = 0 and a record at `cpc`, the run goes on with that record. -/
theorem State.runStatus_running {s : State} {r : Record} (hf : s.fault = false) (h0 : 0 ≤ s.cpc)
    (h : s.program[s.cpc.toNat]? = some r) : s.runStatus = .running r := by
  unfold State.runStatus
  simp [hf, Int.not_lt.mpr h0, h]

/-- Everything a step that answers a next state can have done: nothing, raise a cause, or one instruction's effect. -/
theorem step_next_cases {s t : State} (h : step s = .next t) :
    t = s ∨
    ∃ r, s.runStatus = .running r ∧ s.fault = false ∧ s.cmdReady = true ∧
      ((∃ c, decode r = .error c ∧ t = (s.raise c).advance r) ∨
       (∃ i c, decode r = .ok i ∧ effectOf i s = .error c ∧ t = (s.raise c).advance r) ∨
       (∃ i u, decode r = .ok i ∧ effectOf i s = .ok u ∧ t = u.advance r)) := by
  unfold step State.sequence at h
  split at h
  · next hr =>
    split at h
    · next r hrun =>
      have hf : s.fault = false := by
        unfold State.runStatus at hrun
        cases hfa : s.fault with
        | false => rfl
        | true => simp [hfa] at hrun
      refine .inr ⟨r, hrun, hf, hr, ?_⟩
      cases hd : decode r with
      | error c =>
        rw [s.issue_of_error hf hd] at h
        injection h with h
        exact .inl ⟨c, rfl, h.symm⟩
      | ok i =>
        rw [s.issue_of_ok hd, exec_eq] at h
        injection h with h
        rcases s.settle_cases (effectOf i s) with ⟨hh, _⟩ | ⟨_, c, hc, hs⟩ | ⟨_, u, hu, hs⟩
        · simp [hf] at hh
        · exact .inr (.inl ⟨i, c, rfl, hc, by rw [← h, hs]⟩)
        · exact .inr (.inr ⟨i, u, rfl, hu, by rw [← h, hs]⟩)
    · injection h with h; exact .inl h.symm
    · cases h
    · cases h
  · injection h with h; exact .inl h.symm

end Sys2Proof.Machine
end

