-- ==== Sys2Proof/Tests/Slice0.lean ====
section
/-! SUPPORT. Small tests: each expected value stands in spec/95_test_vectors.md (the vector is named) or is worked by hand from
the rule named; and the witnesses, a concrete state and operands that meet all hypotheses of a statement, clause by
clause and at the boundaries of its ranges. -/

namespace Sys2Proof.Tests

open Sys2Proof Sys2Proof.Machine Sys2Proof.Safety

/-! ## Small states, and what a test looks at -/

/-- A core after reset with the given `CCR` and one buffer of the given bytes, `HDR_ROWS` = 24. -/
def start (ccr : BitVec 5) (bytes : List Byte) : State :=
  { regs := zeroRegs
    flags := Flags.ofCcr ccr
    fault := false
    fcode := 0
    rsp := Response.idle
    cmdReady := true
    mem := ⟨[(Buffer.mk (Fin.ofNat (2 ^ 31) bytes.length) []).writeBytes 0 bytes]⟩
    hdrRows := 24
    flagReset := Flags.ofCcr 0b00000
    edgeRule := defaultEdgeRule
    program := []
    cpc := 0 }

/-- The state with some registers at given values. -/
def withRegs (regs : List (RegNum × Word)) (s : State) : State := regs.foldl (fun t p => t.setReg p.1 p.2) s

/-- The state with a program loaded. -/
def withProgram (p : List Record) (cpc : Int) (s : State) : State := { s with program := p, cpc := cpc }

def nextState : Host.Outcome State Fault Refusal → Option State
  | .next t => some t
  | .fault _ => none
  | .refused _ => none

def faultOf : Host.Outcome State Fault Refusal → Option Fault
  | .next _ => none
  | .fault f => some f
  | .refused _ => none

/-- `RES` and `CCR`. -/
def result (o : Host.Outcome State Fault Refusal) : Option (Word × BitVec 5) :=
  (nextState o).map fun t => (t.rsp.res, t.ccr)

/-- One register and `CCR`. -/
def registerResult (r : RegNum) (o : Host.Outcome State Fault Refusal) : Option (Word × BitVec 5) :=
  (nextState o).map fun t => (t.reg r, t.ccr)

/-- One register, `BR` and `CCR`. -/
def branchResult (r : RegNum) (o : Host.Outcome State Fault Refusal) : Option (Word × Bool × BitVec 5) :=
  (nextState o).map fun t => (t.reg r, t.rsp.br, t.ccr)

/-- The bytes of the buffers, `RES`, `SKIP` and `CCR`. -/
def memoryResult (o : Host.Outcome State Fault Refusal) : Option (List Byte × Word × Bool × BitVec 5) :=
  (nextState o).map fun t => (t.mem.buffers.flatMap fun b => b.readBytes 0 b.len, t.rsp.res, t.rsp.skip, t.ccr)

/-- `FAULT`, `FCODE`, `ERR` and `RES`. -/
def verdict (o : Host.Outcome State Fault Refusal) : Option (Bool × BitVec 3 × Bool × Word) :=
  (nextState o).map fun t => (t.fault, t.fcode, t.rsp.err, t.rsp.res)

/-! ## Well-formedness: an ill-formed term for each check -/

/-- A register-sourced first operand numbered 16, in every command that has one. -/
theorem test_illformed_first_operand :
    [Instr.rmov (.reg 16) none, .radd (.reg 16) (.imm 0) none,
     .orB (.reg 16) (.imm 0) 0 none, .orW (.reg 16) (.imm 0) 0 none, .orL (.reg 16) (.imm 0) 0 none,
     .andB (.reg 16) (.imm 0) 0 none, .andW (.reg 16) (.imm 0) 0 none, .andL (.reg 16) (.imm 0) 0 none,
     .offs (.reg 16) (.imm 0) (.imm 0) none, .offsHdr (.reg 16) (.imm 0) (.imm 0) none,
     .asrW (.reg 16) (.imm 0) none, .asrL (.reg 16) (.imm 0) none, .aslW (.reg 16) (.imm 0) none,
     .aslL (.reg 16) (.imm 0) none, .lsrW (.reg 16) (.imm 0) none, .lsrL (.reg 16) (.imm 0) none,
     .lslW (.reg 16) (.imm 0) none, .lslL (.reg 16) (.imm 0) none, .rorW (.reg 16) (.imm 0) none,
     .rorL (.reg 16) (.imm 0) none, .rolW (.reg 16) (.imm 0) none, .rolL (.reg 16) (.imm 0) none].any
      Instr.wellFormed = false := by decide

/-- A register-sourced second operand numbered 16, in every command that has one. -/
theorem test_illformed_second_operand :
    [Instr.radd (.imm 0) (.reg 16) none, .flgset 0 (.reg 16),
     .orB (.imm 0) (.reg 16) 0 none, .orW (.imm 0) (.reg 16) 0 none, .orL (.imm 0) (.reg 16) 0 none,
     .andB (.imm 0) (.reg 16) 0 none, .andW (.imm 0) (.reg 16) 0 none, .andL (.imm 0) (.reg 16) 0 none,
     .offs (.imm 0) (.reg 16) (.imm 0) none, .offsHdr (.imm 0) (.reg 16) (.imm 0) none,
     .asrW (.imm 0) (.reg 16) none, .asrL (.imm 0) (.reg 16) none, .aslW (.imm 0) (.reg 16) none,
     .aslL (.imm 0) (.reg 16) none, .lsrW (.imm 0) (.reg 16) none, .lsrL (.imm 0) (.reg 16) none,
     .lslW (.imm 0) (.reg 16) none, .lslL (.imm 0) (.reg 16) none, .rorW (.imm 0) (.reg 16) none,
     .rorL (.imm 0) (.reg 16) none, .rolW (.imm 0) (.reg 16) none, .rolL (.imm 0) (.reg 16) none].any
      Instr.wellFormed = false := by decide

/-- A register-sourced third operand numbered 0xFFFFFFFF. -/
theorem test_illformed_third_operand :
    (Instr.offs (.imm 0) (.imm 0) (.reg 0xFFFFFFFF) none).wellFormed = false ∧
    (Instr.offsHdr (.imm 0) (.imm 0) (.reg 0xFFFFFFFF) none).wellFormed = false := by decide

/-- A flag numbered 5. -/
theorem test_illformed_flag :
    (Instr.flgget 5 none).wellFormed = false ∧ (Instr.flgset 5 (.imm 1)).wellFormed = false := by decide

/-- An address register as counter. -/
theorem test_illformed_counter :
    [Instr.dbt 8 0, .dbra 8 0, .dbhi 8 0, .dbls 8 0, .dbcc 8 0, .dbcs 8 0, .dbne 8 0, .dbeq 8 0,
     .dbvc 15 0, .dbvs 15 0, .dbpl 15 0, .dbmi 15 0, .dbge 15 0, .dblt 15 0, .dbgt 15 0, .dble 15 0].any
      Instr.wellFormed = false := by decide

/-- The last names that exist. -/
theorem test_wellformed_boundaries :
    [Instr.rmov (.reg 15) none, .offs (.reg 15) (.reg 15) (.reg 15) none, .flgget 4 none, .flgset 4 (.reg 15), .dbra 7 0,
     .andL (.reg 15) (.reg 15) 0xFFFFFFFF none].all Instr.wellFormed = true := by decide

/-! ## Decoding: a word written out from the spec's encoding for every constructor -/

theorem test_decode_asrW :
    decode ⟨0xE0400000, 0x00008001, 0x00000001, 0x00000000⟩ = .ok (.asrW (.imm 0x8001) (.imm 0x1) none) := by decide

theorem test_decode_asrL :
    decode ⟨0xE0800000, 0x80000000, 0x0000001F, 0x00000000⟩ = .ok (.asrL (.imm 0x80000000) (.imm 0x1F) none) := by decide

theorem test_decode_aslW :
    decode ⟨0xE1400000, 0x00008000, 0x00000001, 0x00000000⟩ = .ok (.aslW (.imm 0x8000) (.imm 0x1) none) := by decide

theorem test_decode_aslL :
    decode ⟨0xE1800000, 0x12345678, 0x00000004, 0x00000000⟩ = .ok (.aslL (.imm 0x12345678) (.imm 0x4) none) := by decide

theorem test_decode_lsrW :
    decode ⟨0xE2400000, 0x00008000, 0x00000001, 0x00000000⟩ = .ok (.lsrW (.imm 0x8000) (.imm 0x1) none) := by decide

theorem test_decode_lsrL :
    decode ⟨0xE2800000, 0x80000000, 0x00000001, 0x00000000⟩ = .ok (.lsrL (.imm 0x80000000) (.imm 0x1) none) := by decide

theorem test_decode_lslW :
    decode ⟨0xE3400000, 0x00004000, 0x00000001, 0x00000000⟩ = .ok (.lslW (.imm 0x4000) (.imm 0x1) none) := by decide

theorem test_decode_lslL :
    decode ⟨0xE3800000, 0x80000000, 0x00000001, 0x00000000⟩ = .ok (.lslL (.imm 0x80000000) (.imm 0x1) none) := by decide

theorem test_decode_rorW :
    decode ⟨0xE6400000, 0x00001234, 0x00000014, 0x00000000⟩ = .ok (.rorW (.imm 0x1234) (.imm 0x14) none) := by decide

theorem test_decode_rorL :
    decode ⟨0xE6800000, 0x0FFFFFFF, 0x00000002, 0x00000000⟩ = .ok (.rorL (.imm 0xFFFFFFF) (.imm 0x2) none) := by decide

theorem test_decode_rolW :
    decode ⟨0xE7400000, 0x00004000, 0x00000001, 0x00000000⟩ = .ok (.rolW (.imm 0x4000) (.imm 0x1) none) := by decide

theorem test_decode_rolL :
    decode ⟨0xE7800000, 0x12345678, 0x00000024, 0x00000000⟩ = .ok (.rolL (.imm 0x12345678) (.imm 0x24) none) := by decide

theorem test_decode_orB :
    decode ⟨0x80000000, 0x00000000, 0x000000F0, 0x00000000⟩ = .ok (.orB (.imm 0x0) (.imm 0xF0) 0 none) := by decide

theorem test_decode_orW :
    decode ⟨0x80400000, 0x00000001, 0x00008001, 0x00000000⟩ = .ok (.orW (.imm 0x1) (.imm 0x8001) 0 none) := by decide

theorem test_decode_orL :
    decode ⟨0x80800000, 0x00000001, 0x80000000, 0x00000000⟩ = .ok (.orL (.imm 0x1) (.imm 0x80000000) 0 none) := by decide

theorem test_decode_andB :
    decode ⟨0xC0000000, 0x00000001, 0x000000AA, 0x00000000⟩ = .ok (.andB (.imm 0x1) (.imm 0xAA) 0 none) := by decide

theorem test_decode_andW :
    decode ⟨0xC0400000, 0x00000001, 0x00007FFE, 0x00000000⟩ = .ok (.andW (.imm 0x1) (.imm 0x7FFE) 0 none) := by decide

theorem test_decode_andL :
    decode ⟨0xC0800000, 0x00000001, 0xE7FFFFFF, 0x00000000⟩ = .ok (.andL (.imm 0x1) (.imm 0xE7FFFFFF) 0 none) := by decide

theorem test_decode_dbra : decode ⟨0x51008000, 0xFFFFFFFF, 0x00000000, 0x00000000⟩ = .ok (.dbra 2 0xFFFFFFFF) := by
  decide

theorem test_decode_dbcs : decode ⟨0x55008000, 0xFFFFFFFF, 0x00000000, 0x00000000⟩ = .ok (.dbcs 2 0xFFFFFFFF) := by
  decide

theorem test_decode_dbt : decode ⟨0x50008000, 0xFFFFFFFF, 0x00000000, 0x00000000⟩ = .ok (.dbt 2 0xFFFFFFFF) := by
  decide

theorem test_decode_dbhi : decode ⟨0x52008000, 0xFFFFFFFF, 0x00000000, 0x00000000⟩ = .ok (.dbhi 2 0xFFFFFFFF) := by
  decide

theorem test_decode_dbls : decode ⟨0x53008000, 0xFFFFFFFF, 0x00000000, 0x00000000⟩ = .ok (.dbls 2 0xFFFFFFFF) := by
  decide

theorem test_decode_dbcc : decode ⟨0x54008000, 0xFFFFFFFF, 0x00000000, 0x00000000⟩ = .ok (.dbcc 2 0xFFFFFFFF) := by
  decide

theorem test_decode_dbne : decode ⟨0x56008000, 0xFFFFFFFF, 0x00000000, 0x00000000⟩ = .ok (.dbne 2 0xFFFFFFFF) := by
  decide

theorem test_decode_dbeq : decode ⟨0x57008000, 0xFFFFFFFF, 0x00000000, 0x00000000⟩ = .ok (.dbeq 2 0xFFFFFFFF) := by
  decide

theorem test_decode_dbvc : decode ⟨0x58008000, 0xFFFFFFFF, 0x00000000, 0x00000000⟩ = .ok (.dbvc 2 0xFFFFFFFF) := by
  decide

theorem test_decode_dbvs : decode ⟨0x59008000, 0xFFFFFFFF, 0x00000000, 0x00000000⟩ = .ok (.dbvs 2 0xFFFFFFFF) := by
  decide

theorem test_decode_dbpl : decode ⟨0x5A008000, 0xFFFFFFFF, 0x00000000, 0x00000000⟩ = .ok (.dbpl 2 0xFFFFFFFF) := by
  decide

theorem test_decode_dbmi : decode ⟨0x5B008000, 0xFFFFFFFF, 0x00000000, 0x00000000⟩ = .ok (.dbmi 2 0xFFFFFFFF) := by
  decide

theorem test_decode_dbge : decode ⟨0x5C008000, 0xFFFFFFFF, 0x00000000, 0x00000000⟩ = .ok (.dbge 2 0xFFFFFFFF) := by
  decide

theorem test_decode_dblt : decode ⟨0x5D008000, 0xFFFFFFFF, 0x00000000, 0x00000000⟩ = .ok (.dblt 2 0xFFFFFFFF) := by
  decide

theorem test_decode_dbgt : decode ⟨0x5E008000, 0xFFFFFFFF, 0x00000000, 0x00000000⟩ = .ok (.dbgt 2 0xFFFFFFFF) := by
  decide

theorem test_decode_dble : decode ⟨0x5F008000, 0xFFFFFFFF, 0x00000000, 0x00000000⟩ = .ok (.dble 2 0xFFFFFFFF) := by
  decide

theorem test_decode_rmov :
    decode ⟨0x1027C000, 0x00000003, 0x00000000, 0x00000000⟩ = .ok (.rmov (.reg 0x3) (some 15)) := by decide

theorem test_decode_radd :
    decode ⟨0x12348000, 0x00000000, 0x00000001, 0x00000000⟩ = .ok (.radd (.reg 0x0) (.reg 0x1) (some 2)) := by decide

theorem test_decode_flgget : decode ⟨0x14040000, 0x00000004, 0x00000000, 0x00000000⟩ = .ok (.flgget 4 (some 0)) := by
  decide

theorem test_decode_flgset : decode ⟨0x15000000, 0x00000000, 0x00000002, 0x00000000⟩ = .ok (.flgset 0 (.imm 0x2)) := by
  decide

theorem test_decode_offs :
    decode ⟨0xA0000000, 0x00000040, 0xFFFFFFF7, 0x00000001⟩ = .ok (.offs (.imm 0x40) (.imm 0xFFFFFFF7) (.imm 0x1) none) := by decide

theorem test_decode_offsHdr :
    decode ⟨0xA1000000, 0x40, 0xA, 3⟩ = .ok (.offsHdr (.imm 0x40) (.imm 0xA) (.imm 3) none) := by decide

/-- Format P in full, bit by bit: `OP` 0x12, `SZ` 00, `S1` 1, `S2` 0, `S3` 0, `WB` 1, `RD` 1000, fourteen zeros (30 R75, R80). -/
theorem test_decode_bits_radd :
    decode ⟨0b00010010001001100000000000000000, 8, 1, 0⟩ = .ok (.radd (.reg 8) (.imm 1) (some 8)) := by decide

/-- The encoder writes the records of 95_test_vectors.md. -/
theorem test_encode_words :
    encode (.asrL (.reg 2) (.imm 31) (some 11)) = ⟨0xE0A6C000, 2, 0x1F, 0⟩ ∧
    encode (.offs (.reg 1) (.reg 2) (.reg 3) (some 9)) = ⟨0xA03E4000, 1, 2, 3⟩ ∧
    encode (.dbra 3 0xFFFFFFFE) = ⟨0x5100C000, 0xFFFFFFFE, 0, 0⟩ := by decide

/-- The stored form is big-endian (30 R85). -/
theorem test_stored_bytes :
    decodeBytes [0x12, 0x26, 0, 0, 0, 0, 0, 8, 0, 0, 0, 1, 0, 0, 0, 0, 0xAB] =
      .ok (.radd (.reg 8) (.imm 1) (some 8), [0xAB]) := by decide

theorem test_truncated : decodeBytes [0x12, 0x26, 0, 0] = .error .truncated := by decide

theorem test_table_word : decodeTableWord 32 0xC0800000 = some (.andL (.imm 0) (.imm 0) 0 none) := by decide

/-- Pseudo-instructions and aliases (30 R87). -/
theorem test_pseudo_instructions :
    encode (Instr.regadd 8 (.imm 1)) = ⟨0x12260000, 8, 1, 0⟩ ∧ encode (Instr.regrd 3) = ⟨0x10200000, 3, 0, 0⟩ ∧
    encode (Instr.regwr 8 (immediate (-1))) = ⟨0x10060000, 0xFFFFFFFF, 0, 0⟩ ∧ Instr.dbhs 2 0 = .dbcc 2 0 := by decide

/-! ## Illegal records: which check fails first (95_test_vectors.md 2.6) -/

theorem test_illegal_il1 : verdict ((start 0b10101 [0x0F]).present ⟨0x00000000, 0x00000000, 0x00000000, 0x00000000⟩) = some (true, 1, true, 0) := by decide

theorem test_illegal_il3 : verdict ((start 0b10101 [0x0F]).present ⟨0xE4400000, 0x00000001, 0x00000001, 0x00000000⟩) = some (true, 1, true, 0) := by decide

theorem test_illegal_il6 : verdict ((start 0b10101 [0x0F]).present ⟨0xE0000000, 0x00000001, 0x00000001, 0x00000000⟩) = some (true, 2, true, 0) := by decide

theorem test_illegal_il8 : verdict ((start 0b10101 [0x0F]).present ⟨0xC0C00000, 0x00000000, 0x00000000, 0x00000000⟩) = some (true, 2, true, 0) := by decide

theorem test_illegal_il12 : verdict ((start 0b10101 [0x0F]).present ⟨0xE0400001, 0x00000001, 0x00000001, 0x00000000⟩) = some (true, 3, true, 0) := by decide

theorem test_illegal_il16 : verdict ((start 0b10101 [0x0F]).present ⟨0x15040000, 0x00000000, 0x00000001, 0x00000000⟩) = some (true, 3, true, 0) := by decide

theorem test_illegal_il20 : verdict ((start 0b10101 [0x0F]).present ⟨0x80080000, 0x00000000, 0x00000000, 0x00000000⟩) = some (true, 3, true, 0) := by decide

theorem test_illegal_il22 : verdict ((start 0b10101 [0x0F]).present ⟨0xE0500000, 0x00000001, 0xFFFFFFFF, 0x00000000⟩) = some (true, 4, true, 0) := by decide

theorem test_illegal_il23 : verdict ((start 0b10101 [0x0F]).present ⟨0x51020000, 0x00000000, 0x00000000, 0x00000000⟩) = some (true, 4, true, 0) := by decide

theorem test_illegal_il26 : verdict ((start 0b10101 [0x0F]).present ⟨0x15000000, 0x00000005, 0x00000001, 0x00000000⟩) = some (true, 4, true, 0) := by decide

theorem test_illegal_il27 : verdict ((start 0b10101 [0x0F]).present ⟨0xA0080000, 0x00000008, 0x00000000, 0x00000010⟩) = some (true, 4, true, 0) := by decide

theorem test_illegal_il28 : verdict ((start 0b10101 [0x0F]).present ⟨0x80000000, 0x00000000, 0x000000F0, 0x00000001⟩) = some (true, 5, true, 0) := by decide

theorem test_illegal_il30 : verdict ((start 0b10101 [0x0F]).present ⟨0xE4C00001, 0x00000000, 0x00000000, 0x00000000⟩) = some (true, 1, true, 0) := by decide

theorem test_illegal_il31 : verdict ((start 0b10101 [0x0F]).present ⟨0xC0C00000, 0x00000000, 0x00000000, 0x00000009⟩) = some (true, 2, true, 0) := by decide

theorem test_illegal_il32 : verdict ((start 0b10101 [0x0F]).present ⟨0xE0000001, 0x00000000, 0x00000000, 0x00000000⟩) = some (true, 2, true, 0) := by decide

theorem test_illegal_il33 : verdict ((start 0b10101 [0x0F]).present ⟨0x80200000, 0x00000063, 0x00000000, 0x00000009⟩) = some (true, 4, true, 0) := by decide

theorem test_illegal_il34 : verdict ((start 0b10101 [0x0F]).present ⟨0xE0680000, 0x00000063, 0x00000000, 0x00000000⟩) = some (true, 3, true, 0) := by decide

/-- After a fault every record is answered `ERR` = 1 and `FCODE` keeps its code (60 R235). -/
theorem test_faulted_core :
    verdict ({ start 0 [] with fault := true, fcode := 4 }.present ⟨0x10040000, 2, 0, 0⟩) = some (true, 4, true, 0) := by
  decide

/-! ## Steps of the instructions -/

/-- V-SR2 -/
theorem test_step_asrW : result (exec (.asrW (.imm 0x8001) (.imm 0x1) none) (start 0b00000 [])) = some (0x0000C000, 0b11001) := by decide

/-- V-SR7 -/
theorem test_step_asrW_again : result (exec (.asrW (.imm 0x18000) (.imm 0x1) none) (start 0b00000 [])) = some (0x0000C000, 0b01000) := by decide

/-- V-SR11 -/
theorem test_step_asrL : result (exec (.asrL (.imm 0x80000000) (.imm 0x1F) none) (start 0b00000 [])) = some (0xFFFFFFFF, 0b01000) := by decide

/-- V-SR15 -/
theorem test_step_asrL_again : result (exec (.asrL (.imm 0xDEADBEEF) (.imm 0x24) none) (start 0b00000 [])) = some (0xFDEADBEE, 0b11001) := by decide

/-- V-SR18 -/
theorem test_step_aslW : result (exec (.aslW (.imm 0x8000) (.imm 0x1) none) (start 0b00000 [])) = some (0x00000000, 0b10111) := by decide

/-- V-SR20 -/
theorem test_step_aslW_again : result (exec (.aslW (.imm 0xFFFF) (.imm 0xF) none) (start 0b00000 [])) = some (0x00008000, 0b11001) := by decide

/-- V-SR28 -/
theorem test_step_aslL : result (exec (.aslL (.imm 0x12345678) (.imm 0x4) none) (start 0b00000 [])) = some (0x23456780, 0b10011) := by decide

/-- V-SR27 -/
theorem test_step_aslL_again : result (exec (.aslL (.imm 0xFFFFFFFF) (.imm 0x1F) none) (start 0b00000 [])) = some (0x80000000, 0b11001) := by decide

/-- V-SR30 -/
theorem test_step_lsrW : result (exec (.lsrW (.imm 0x8000) (.imm 0x1) none) (start 0b00000 [])) = some (0x00004000, 0b00000) := by decide

/-- V-SR34 -/
theorem test_step_lsrW_again : result (exec (.lsrW (.imm 0xABCD) (.imm 0x4) none) (start 0b00000 [])) = some (0x00000ABC, 0b10001) := by decide

/-- V-SR35 -/
theorem test_step_lsrL : result (exec (.lsrL (.imm 0x80000000) (.imm 0x1) none) (start 0b00000 [])) = some (0x40000000, 0b00000) := by decide

/-- V-SR39 -/
theorem test_step_lsrL_again : result (exec (.lsrL (.imm 0xFFFFFFFF) (.imm 0x21) none) (start 0b00000 [])) = some (0x7FFFFFFF, 0b10001) := by decide

/-- V-SR40 -/
theorem test_step_lslW : result (exec (.lslW (.imm 0x4000) (.imm 0x1) none) (start 0b00000 [])) = some (0x00008000, 0b01000) := by decide

/-- V-SR44 -/
theorem test_step_lslW_again : result (exec (.lslW (.imm 0xABCD) (.imm 0x4) none) (start 0b00000 [])) = some (0x0000BCD0, 0b01000) := by decide

/-- V-SR46 -/
theorem test_step_lslL : result (exec (.lslL (.imm 0x80000000) (.imm 0x1) none) (start 0b00000 [])) = some (0x00000000, 0b10101) := by decide

/-- V-SR49 -/
theorem test_step_lslL_again : result (exec (.lslL (.imm 0x12345678) (.imm 0x28) none) (start 0b00000 [])) = some (0x34567800, 0b00000) := by decide

/-- V-SR54 -/
theorem test_step_rorW : result (exec (.rorW (.imm 0x1234) (.imm 0x14) none) (start 0b10000 [])) = some (0x00004123, 0b10000) := by decide

/-- V-SR50 -/
theorem test_step_rorW_again : result (exec (.rorW (.imm 0x1) (.imm 0x1) none) (start 0b00000 [])) = some (0x00008000, 0b01001) := by decide

/-- V-SR60 -/
theorem test_step_rorL : result (exec (.rorL (.imm 0xFFFFFFF) (.imm 0x2) none) (start 0b00000 [])) = some (0xC3FFFFFF, 0b01001) := by decide

/-- V-SR58 -/
theorem test_step_rorL_again : result (exec (.rorL (.imm 0x12345678) (.imm 0x8) none) (start 0b00000 [])) = some (0x78123456, 0b00000) := by decide

/-- V-SR65 -/
theorem test_step_rolW : result (exec (.rolW (.imm 0x4000) (.imm 0x1) none) (start 0b10001 [])) = some (0x00008000, 0b11000) := by decide

/-- V-SR64 -/
theorem test_step_rolW_again : result (exec (.rolW (.imm 0x1234) (.imm 0x4) none) (start 0b00000 [])) = some (0x00002341, 0b00001) := by decide

/-- V-SR72 -/
theorem test_step_rolL : result (exec (.rolL (.imm 0x12345678) (.imm 0x24) none) (start 0b00000 [])) = some (0x23456781, 0b00001) := by decide

/-- V-SR71 -/
theorem test_step_rolL_again : result (exec (.rolL (.imm 0x12345678) (.imm 0x0) none) (start 0b11111 [])) = some (0x12345678, 0b10000) := by decide

/-- V-LM1 -/
theorem test_step_orB :
    memoryResult (exec (.orB (.imm 0x0) (.imm 0xF0) 0 none) (start 0b00000 [0x0f])) = some ([0xff], 0x000000FF, false, 0b01000) := by decide

/-- V-LM2 -/
theorem test_step_orB_again :
    memoryResult (exec (.orB (.imm 0x1) (.imm 0xF0) 0 none) (start 0b11111 [0x0f])) = some ([0x0f], 0x00000000, true, 0b11111) := by decide

/-- V-LM5 -/
theorem test_step_orW :
    memoryResult (exec (.orW (.imm 0x1) (.imm 0x8001) 0 none) (start 0b00000 [0x12, 0x34, 0x56])) = some ([0x12, 0xb4, 0x57], 0x0000B457, false, 0b01000) := by decide

/-- V-LM7 -/
theorem test_step_orW_again :
    memoryResult (exec (.orW (.imm 0x0) (.imm 0x0) 0 none) (start 0b10011 [0x00, 0x00])) = some ([0x00, 0x00], 0x00000000, false, 0b10100) := by decide

/-- V-LM8 -/
theorem test_step_orL :
    memoryResult (exec (.orL (.imm 0x1) (.imm 0x80000000) 0 none) (start 0b00000 [0x01, 0x02, 0x03, 0x04, 0x05])) = some ([0x01, 0x82, 0x03, 0x04, 0x05], 0x82030405, false, 0b01000) := by decide

/-- V-LM23 -/
theorem test_step_orL_again :
    memoryResult (exec (.orL (.imm 0x80000000) (.imm 0xFFFFFFFF) 0 none) (start 0b00000 [0x01, 0x02, 0x03, 0x04])) = some ([0x01, 0x02, 0x03, 0x04], 0x00000000, true, 0b00000) := by decide

/-- V-LM12 -/
theorem test_step_andB :
    memoryResult (exec (.andB (.imm 0x1) (.imm 0xAA) 0 none) (start 0b00011 [0xaa, 0x55])) = some ([0xaa, 0x00], 0x00000000, false, 0b00100) := by decide

/-- V-LM13 -/
theorem test_step_andB_again :
    memoryResult (exec (.andB (.imm 0x0) (.imm 0xFFFFFF80) 0 none) (start 0b00000 [0xff])) = some ([0x80], 0x00000080, false, 0b01000) := by decide

/-- V-LM14 -/
theorem test_step_andW :
    memoryResult (exec (.andW (.imm 0x1) (.imm 0x7FFE) 0 none) (start 0b00000 [0xff, 0xff, 0xff])) = some ([0xff, 0x7f, 0xfe], 0x00007FFE, false, 0b00000) := by decide

/-- V-LM16 -/
theorem test_step_andW_again :
    memoryResult (exec (.andW (.imm 0x2) (.imm 0x0) 0 none) (start 0b00000 [0xff, 0xff, 0xff])) = some ([0xff, 0xff, 0xff], 0x00000000, true, 0b00000) := by decide

/-- V-LM18 -/
theorem test_step_andL :
    memoryResult (exec (.andL (.imm 0x1) (.imm 0xE7FFFFFF) 0 none) (start 0b00000 [0xff, 0xff, 0xff, 0xff, 0xff])) = some ([0xff, 0xe7, 0xff, 0xff, 0xff], 0xE7FFFFFF, false, 0b01000) := by decide

/-- V-LM17 -/
theorem test_step_andL_again :
    memoryResult (exec (.andL (.imm 0x2) (.imm 0x0) 0 none) (start 0b00000 [0x01, 0x02, 0x03, 0x04, 0x05])) = some ([0x01, 0x02, 0x03, 0x04, 0x05], 0x00000000, true, 0b00000) := by decide

/-- V-DB3 -/
theorem test_step_dbra :
    branchResult 2 (exec (.dbra 2 0xFFFFFFFF) (withRegs [(2, 0x00000000)] (start 0b00000 []))) = some (0x0000FFFF, false, 0b00000) := by decide

/-- V-DB6 -/
theorem test_step_dbra_again :
    branchResult 2 (exec (.dbra 2 0xFFFFFFFF) (withRegs [(2, 0x12340001)] (start 0b11111 []))) = some (0x12340000, true, 0b11111) := by decide

/-- V-DB8 -/
theorem test_step_dbcs :
    branchResult 2 (exec (.dbcs 2 0xFFFFFFFF) (withRegs [(2, 0x00000003)] (start 0b00000 []))) = some (0x00000002, true, 0b00000) := by decide

/-- V-DB10 -/
theorem test_step_dbcs_again :
    branchResult 2 (exec (.dbcs 2 0xFFFFFFFF) (withRegs [(2, 0x00000000)] (start 0b00001 []))) = some (0x00000000, false, 0b00001) := by decide

/-- V-DB11 -/
theorem test_step_dbt :
    branchResult 2 (exec (.dbt 2 0xFFFFFFFF) (withRegs [(2, 0x00000003)] (start 0b00000 []))) = some (0x00000003, false, 0b00000) := by decide

/-- V-DB12 -/
theorem test_step_dbt_again :
    branchResult 2 (exec (.dbt 2 0xFFFFFFFF) (withRegs [(2, 0x00000000)] (start 0b11111 []))) = some (0x00000000, false, 0b11111) := by decide

/-- V-DB14 -/
theorem test_step_dbhi :
    branchResult 2 (exec (.dbhi 2 0xFFFFFFFF) (withRegs [(2, 0x00000007)] (start 0b00001 []))) = some (0x00000006, true, 0b00001) := by decide

/-- V-DB39 -/
theorem test_step_dbhi_again :
    branchResult 2 (exec (.dbhi 2 0xFFFFFFFF) (withRegs [(2, 0x00000007)] (start 0b00100 []))) = some (0x00000006, true, 0b00100) := by decide

/-- V-DB15 -/
theorem test_step_dbls :
    branchResult 2 (exec (.dbls 2 0xFFFFFFFF) (withRegs [(2, 0x00000007)] (start 0b00100 []))) = some (0x00000007, false, 0b00100) := by decide

/-- V-DB40 -/
theorem test_step_dbls_again :
    branchResult 2 (exec (.dbls 2 0xFFFFFFFF) (withRegs [(2, 0x00000007)] (start 0b00001 []))) = some (0x00000007, false, 0b00001) := by decide

/-- V-DB17 -/
theorem test_step_dbcc :
    branchResult 2 (exec (.dbcc 2 0xFFFFFFFF) (withRegs [(2, 0x00000007)] (start 0b00000 []))) = some (0x00000007, false, 0b00000) := by decide

/-- V-DB18 -/
theorem test_step_dbcc_again :
    branchResult 2 (exec (.dbcc 2 0xFFFFFFFF) (withRegs [(2, 0x00000007)] (start 0b00001 []))) = some (0x00000006, true, 0b00001) := by decide

/-- V-DB19 -/
theorem test_step_dbne :
    branchResult 2 (exec (.dbne 2 0xFFFFFFFF) (withRegs [(2, 0x00000007)] (start 0b00000 []))) = some (0x00000007, false, 0b00000) := by decide

/-- V-DB20 -/
theorem test_step_dbne_again :
    branchResult 2 (exec (.dbne 2 0xFFFFFFFF) (withRegs [(2, 0x00000007)] (start 0b00100 []))) = some (0x00000006, true, 0b00100) := by decide

/-- V-DB21 -/
theorem test_step_dbeq :
    branchResult 2 (exec (.dbeq 2 0xFFFFFFFF) (withRegs [(2, 0x00000007)] (start 0b00100 []))) = some (0x00000007, false, 0b00100) := by decide

/-- V-DB48 -/
theorem test_step_dbeq_again :
    branchResult 2 (exec (.dbeq 2 0xFFFFFFFF) (withRegs [(2, 0x00000007)] (start 0b10000 []))) = some (0x00000006, true, 0b10000) := by decide

/-- V-DB23 -/
theorem test_step_dbvc :
    branchResult 2 (exec (.dbvc 2 0xFFFFFFFF) (withRegs [(2, 0x00000007)] (start 0b00000 []))) = some (0x00000007, false, 0b00000) := by decide

/-- V-DB24 -/
theorem test_step_dbvc_again :
    branchResult 2 (exec (.dbvc 2 0xFFFFFFFF) (withRegs [(2, 0x00000007)] (start 0b00010 []))) = some (0x00000006, true, 0b00010) := by decide

/-- V-DB25 -/
theorem test_step_dbvs :
    branchResult 2 (exec (.dbvs 2 0xFFFFFFFF) (withRegs [(2, 0x00000007)] (start 0b00010 []))) = some (0x00000007, false, 0b00010) := by decide

/-- V-DB26 -/
theorem test_step_dbvs_again :
    branchResult 2 (exec (.dbvs 2 0xFFFFFFFF) (withRegs [(2, 0x00000007)] (start 0b00000 []))) = some (0x00000006, true, 0b00000) := by decide

/-- V-DB27 -/
theorem test_step_dbpl :
    branchResult 2 (exec (.dbpl 2 0xFFFFFFFF) (withRegs [(2, 0x00000007)] (start 0b00000 []))) = some (0x00000007, false, 0b00000) := by decide

/-- V-DB28 -/
theorem test_step_dbpl_again :
    branchResult 2 (exec (.dbpl 2 0xFFFFFFFF) (withRegs [(2, 0x00000007)] (start 0b01000 []))) = some (0x00000006, true, 0b01000) := by decide

/-- V-DB29 -/
theorem test_step_dbmi :
    branchResult 2 (exec (.dbmi 2 0xFFFFFFFF) (withRegs [(2, 0x00000007)] (start 0b01000 []))) = some (0x00000007, false, 0b01000) := by decide

/-- V-DB30 -/
theorem test_step_dbmi_again :
    branchResult 2 (exec (.dbmi 2 0xFFFFFFFF) (withRegs [(2, 0x00000007)] (start 0b00000 []))) = some (0x00000006, true, 0b00000) := by decide

/-- V-DB31 -/
theorem test_step_dbge :
    branchResult 2 (exec (.dbge 2 0xFFFFFFFF) (withRegs [(2, 0x00000007)] (start 0b01010 []))) = some (0x00000007, false, 0b01010) := by decide

/-- V-DB42 -/
theorem test_step_dbge_again :
    branchResult 2 (exec (.dbge 2 0xFFFFFFFF) (withRegs [(2, 0x00000007)] (start 0b00010 []))) = some (0x00000006, true, 0b00010) := by decide

/-- V-DB33 -/
theorem test_step_dblt :
    branchResult 2 (exec (.dblt 2 0xFFFFFFFF) (withRegs [(2, 0x00000007)] (start 0b01000 []))) = some (0x00000007, false, 0b01000) := by decide

/-- V-DB34 -/
theorem test_step_dblt_again :
    branchResult 2 (exec (.dblt 2 0xFFFFFFFF) (withRegs [(2, 0x00000007)] (start 0b01010 []))) = some (0x00000006, true, 0b01010) := by decide

/-- V-DB36 -/
theorem test_step_dbgt :
    branchResult 2 (exec (.dbgt 2 0xFFFFFFFF) (withRegs [(2, 0x00000007)] (start 0b01110 []))) = some (0x00000006, true, 0b01110) := by decide

/-- V-DB45 -/
theorem test_step_dbgt_again :
    branchResult 2 (exec (.dbgt 2 0xFFFFFFFF) (withRegs [(2, 0x00000007)] (start 0b01000 []))) = some (0x00000006, true, 0b01000) := by decide

/-- V-DB46 -/
theorem test_step_dble :
    branchResult 2 (exec (.dble 2 0xFFFFFFFF) (withRegs [(2, 0x00000007)] (start 0b01000 []))) = some (0x00000007, false, 0b01000) := by decide

/-- V-DB38 -/
theorem test_step_dble_again :
    branchResult 2 (exec (.dble 2 0xFFFFFFFF) (withRegs [(2, 0x00000007)] (start 0b00000 []))) = some (0x00000006, true, 0b00000) := by decide

/-- V-RA3 -/
theorem test_step_rmov :
    registerResult 15 (exec (.rmov (.reg 0x3) (some 15)) (withRegs [(3, 0xCAFEF00D)] (start 0b00000 []))) = some (0xCAFEF00D, 0b00000) := by decide

/-- V-RA4 -/
theorem test_step_rmov_again :
    registerResult 8 (exec (.rmov (.imm 0xFFFFFFFF) (some 8)) (start 0b00000 [])) = some (0xFFFFFFFF, 0b00000) := by decide

/-- V-RA7 -/
theorem test_step_radd :
    registerResult 2 (exec (.radd (.reg 0x0) (.reg 0x1) (some 2)) (withRegs [(0, 0xFFFFFFFF), (1, 0x00000002)] (start 0b00000 []))) = some (0x00000001, 0b00000) := by decide

/-- V-RA8 -/
theorem test_step_radd_again :
    registerResult 8 (exec (.radd (.reg 0x8) (.imm 0xFFFFFFF8) (some 8)) (withRegs [(8, 0x00000008)] (start 0b00000 []))) = some (0x00000000, 0b00000) := by decide

/-- V-RA11 -/
theorem test_step_flgget :
    registerResult 0 (exec (.flgget 4 (some 0)) (start 0b10000 [])) = some (0x00000001, 0b10000) := by decide

/-- V-RA12 -/
theorem test_step_flgget_again : result (exec (.flgget 3 none) (start 0b10111 [])) = some (0x00000000, 0b10111) := by decide

/-- V-RA14 -/
theorem test_step_flgset : result (exec (.flgset 0 (.imm 0x2)) (start 0b00001 [])) = some (0x00000000, 0b00000) := by decide

/-- V-RA15 -/
theorem test_step_flgset_again : result (exec (.flgset 4 (.reg 0x1)) (withRegs [(1, 0xFFFFFFFF)] (start 0b00000 []))) = some (0x00000000, 0b10000) := by decide

/-- V-AH6 -/
theorem test_step_offs : result (exec (.offs (.imm 0x40) (.imm 0xFFFFFFF7) (.imm 0x1) none) (start 0b00000 [])) = some (0x0000003E, 0b00000) := by decide

/-- V-AH9 -/
theorem test_step_offs_again :
    registerResult 9 (exec (.offs (.reg 0x1) (.reg 0x2) (.reg 0x3) (some 9)) (withRegs [(1, 0x00000008), (2, 0x00000011), (3, 0x00000002)] (start 0b00000 []))) = some (0x00000012, 0b00000) := by decide

/-- 95_test_vectors.md 2.5, `HDR_ROWS` = 24 -/
theorem test_step_offsHdr :
    result (exec (.offsHdr (.imm 64) (.imm 10) (.imm 3) none) (start 0b00000 [])) = some (0x000006C1, 0b00000) := by decide

/-- 95_test_vectors.md 2.5, `HDR_ROWS` = 24 -/
theorem test_step_offsHdr_again :
    result (exec (.offsHdr (.imm 64) (.imm 0) (.imm 0xFFFFFFE8) none) (start 0b00000 [])) = some (0, 0b00000) := by decide

/-! ## Steps of the machine -/

/-- The step of a branch that loops again moves `cpc` by the displacement (45 R215): command 4 of program P1. -/
theorem test_step_branches_back :
    (nextState (step (withProgram (List.replicate 4 ⟨0, 0, 0, 0⟩ ++ [⟨0x5100C000, 0xFFFFFFFE, 0, 0⟩]) 4
      (withRegs [(3, 6)] (start 0 []))))).map (fun t => (t.cpc, t.reg 3)) = some (2, 5) := by decide

/-- The step of a branch whose loop is over moves on. -/
theorem test_step_falls_through :
    (nextState (step (withProgram [⟨0x5100C000, 0xFFFFFFFF, 0, 0⟩] 0 (start 0 [])))).map (fun t => (t.cpc, t.reg 3)) =
      some (1, 0xFFFF) := by decide

/-- A branch before the first command leaves `cpc` negative, and the next step says so (45 R217). -/
theorem test_branch_outside :
    faultOf (step (withProgram [⟨0x5100C000, 0xFFFFFFFF, 0, 0⟩] (-1) (start 0 []))) = some .branchOutsideProgram := by decide

/-- With the core not ready nothing is transferred. -/
theorem test_not_ready :
    (nextState (step { withProgram [⟨0x1004C000, 5, 0, 0⟩] 0 (start 0 []) with cmdReady := false })).map
      (fun t => (t.cpc, t.reg 3)) = some (0, 0) := by decide

/-- `withFetchWord` puts an instruction where the next step from reset fetches it. -/
theorem test_fetch_word :
    (nextState (step (State.reset.withFetchWord 64 0x000000051004C000))).map (fun t => (t.reg 3, t.cpc)) =
      some (5, 1) := by decide

/-- Each memory operation leaves the canonical form: a byte written back to what an unlisted byte reads as is not listed. -/
theorem test_canonical_form :
    (nextState (exec (.andL (.imm 0) (.imm 0xFF000000) 0 none) (start 0 [1, 2, 3, 4]))).map
      (fun t => (t.mem, t.mem.wf)) = some (⟨[⟨4, [(0, 1)]⟩]⟩, true) := by decide

/-- Pulsing `RST` clears the fault and leaves the buffer. -/
theorem test_reset_port :
    (let t := ({ start 0b11111 [7] with fault := true, fcode := 2 } : State).pulseReset
     (t.fault, t.fcode, t.ccr, t.mem.byteAt 0 0, t.cmdReady)) = (false, 0, 0, some 7, true) := by decide

/-- A platform with `FLAG_RESET` = 10000. -/
theorem test_flag_reset :
    ({ start 0 [] with flagReset := Flags.ofCcr 0b10000 } : State).pulseReset.ccr = 0b10000 := by decide

theorem test_context : ((start 0 []).createContext [(3, 7), (8, -1), (3, 9)]).reg 3 = 9 := by decide

theorem test_record_text : recordText ⟨0xE0A6C000, 2, 0x1F, 0⟩ = "E0A6C000 00000002 0000001F 00000000".toList := by decide

/-- A platform whose threshold is one byte earlier skips the access that ends at the last byte (20 R60). -/
theorem test_edge_rule :
    memoryResult (exec (.andL (.imm 1) (.imm 0) 0 none)
      { start 0 [1, 2, 3, 4, 5] with edgeRule := .less .length (.add (.add .offset .width) (.const 1)) }) =
      some ([1, 2, 3, 4, 5], 0, true, 0) := by decide

/-- Numbers in the notations of 00 R10, and displacements in decimal alone (30 R86). -/
theorem test_number_notations :
    assembleLine [] 0 "rmov #0x1F".toList = some (.rmov (.imm 31) none) ∧
    assembleLine [] 0 "rmov #0b11111".toList = some (.rmov (.imm 31) none) ∧
    assembleLine [] 0 "rmov #31".toList = some (.rmov (.imm 31) none) ∧
    assembleLine [] 0 "rmov #0b2".toList = none ∧ assembleLine [] 0 "dbra D3, 0x2".toList = none ∧
    instrText (.dbra 3 0xFFFFFFF4) = "dbra D3, -12".toList := by decide

/-- R86: `D<n>` is the one form of a counter; a comment is no command; a number that fits no operand word is reduced modulo 2^32
(notes/assumptions/16.md). -/
theorem test_assembler_choices :
    assembleFrom [] 0 ["; counts".toList, "rmov	#2 -> D3".toList, [], "dbra D3, 0 ; again".toList] =
      some [⟨0x1004C000, 2, 0, 0⟩, ⟨0x5100C000, 0, 0, 0⟩] ∧
    assembleLine [] 0 "dbra A3, 0".toList = none ∧
    assembleLine [] 0 "or_b b4294967297, #0, #1".toList = some (.orB (.imm 0) (.imm 1) 1 none) := by decide

theorem test_instruction_text : instrText (.andL (.reg 8) (.imm 1) 0 (some 2)) = "and_l b0x00000000, A0, #0x00000001 -> D2".toList := by
  decide

/-! ## Witnesses -/

/-- A core with five buffer bytes and the boundary registers D0, D7, A0 and A7 set. -/
def witnessState : State := withRegs [(0, 1), (7, 3), (8, 4), (15, 0x8000)] (start 0b10101 [1, 2, 3, 4, 5])

theorem witness_DecodeAcceptsExactlyTheTable :
    ("rmov", 0x10000000, 0xFFD83FFF) ∈ opcodeRows ∧ (0x1024C000 : Word) &&& 0xFFD83FFF = 0x10000000 ∧
    ("rol_l", 0xE7800000, 0xFFC83FFF) ∈ opcodeRows ∧ (0xE7B7C000 : Word) &&& 0xFFC83FFF = 0xE7800000 := by decide

/-- A command with `WB` = 1, a decrement-and-branch with `WB` = 0, and a command with neither. -/
theorem witness_EncodeKeepsControlBits :
    (decode ⟨0x1007C000, 0, 0, 0⟩ = .ok (.rmov (.imm 0) (some 15)) ∧ (0x1007C000 : Word).getLsbD 18 = true) ∧
    (decode ⟨0x5F01C000, 0, 0, 0⟩ = .ok (.dble 7 0) ∧ opcodeByte ⟨0x5F01C000, 0, 0, 0⟩ / 16 = 5) ∧
    decode ⟨0x1003C000, 7, 0, 0⟩ = .ok (.rmov (.imm 7) none) := by decide

theorem witness_UnusedOperandWordsIgnored :
    (0x50000000 : Word).toNat / 2 ^ 28 = 5 ∧ (0x5F000000 : Word).toNat / 2 ^ 28 = 5 ∧
    (0x10000000 : Word).toNat / 2 ^ 24 = 0x10 ∧ (0x14000000 : Word).toNat / 2 ^ 24 = 0x14 ∧
    (0xE0400000 : Word).toNat / 2 ^ 28 = 0xE ∧ (0x12000000 : Word).toNat / 2 ^ 24 = 0x12 ∧
    (0x15000000 : Word).toNat / 2 ^ 24 = 0x15 := by decide

theorem witness_OperandResolution :
    resolve witnessState (.reg 15) = .ok 0x8000 ∧ resolve witnessState (.reg 0) = .ok 1 ∧
    (15 : Word).toNat = (15 : RegNum).val ∧ 15 < (16 : Word).toNat ∧
    resolve witnessState (.reg 16) = .error .badRegister := by decide

theorem witness_RegistersZeroAtReset :
    (15 : Word).toNat = (15 : RegNum).val ∧ (0 : Word).toNat = (0 : RegNum).val := by decide

theorem witness_RmovMovesItsOperand :
    witnessState.fault = false ∧ resolve witnessState (.reg 15) = .ok 0x8000 ∧
    resolve witnessState (.imm 0xFFFFFFFF) = .ok 0xFFFFFFFF := by decide

theorem witness_RaddWrapsModulo :
    witnessState.fault = false ∧ resolve witnessState (.imm 0xFFFFFFFF) = .ok 0xFFFFFFFF ∧
    resolve witnessState (.reg 0) = .ok 1 := by decide

theorem witness_FlggetReadsOneFlag :
    witnessState.fault = false ∧ (0 : Word).toNat ≤ 4 ∧ (4 : Word).toNat ≤ 4 ∧
    result (exec (.flgget 4 none) witnessState) = some (1, 0b10101) := by decide

theorem witness_FlgsetWritesOneFlag :
    witnessState.fault = false ∧ (0 : Word).toNat ≤ 4 ∧ (4 : Word).toNat ≤ 4 ∧ resolve witnessState (.reg 0) = .ok 1 := by
  decide

/-- The hypotheses of the six shift and rotate statements, at both widths and at effective counts 0, 1 and W - 1. -/
theorem witness_shifts :
    witnessState.fault = false ∧ resolve witnessState (.reg 15) = .ok 0x8000 ∧
    resolve witnessState (.reg 0) = .ok 1 ∧ resolve witnessState (.imm 32) = .ok 32 ∧
    resolve witnessState (.imm 0xFFFFFFFF) = .ok 0xFFFFFFFF ∧
    (32 : Word).toNat % 16 = 0 ∧ (32 : Word).toNat % 32 = 0 ∧ (0xFFFFFFFF : Word).toNat % 16 = 15 ∧
    (0xFFFFFFFF : Word).toNat % 32 = 31 := by decide

theorem witness_EffectiveCountZeroKeepsTheValue :
    witnessState.fault = false ∧ resolve witnessState (.reg 15) = .ok 0x8000 ∧
    resolve witnessState (.imm 16) = .ok 16 ∧ (16 : Word).toNat % 16 = 0 ∧
    resolve witnessState (.imm 0) = .ok 0 ∧ (0 : Word).toNat % 32 = 0 := by decide

theorem witness_RotationIsInvertible :
    witnessState.fault = false ∧ (0xFFFF : Word).toNat < 2 ^ 16 ∧ (0 : Word).toNat < 2 ^ 16 := by decide

theorem witness_RightShiftsAgreeOnTopBitZero :
    resolve witnessState (.imm 0x7FFFFFFF) = .ok 0x7FFFFFFF ∧ (0x7FFFFFFF : Word).getLsbD 31 = false ∧
    resolve witnessState (.imm 0xFFFF7FFF) = .ok 0xFFFF7FFF ∧ (0xFFFF7FFF : Word).getLsbD 15 = false := by decide

/-- Offset 0, the last offset a long, a word and a byte fit at, and a rule with its threshold one byte earlier. -/
theorem witness_LogicalCommandsPerformed :
    witnessState.edgeRule.skips (0 : Word).toInt 4 5 = false ∧ witnessState.edgeRule.skips (1 : Word).toInt 4 5 = false ∧
    witnessState.edgeRule.skips (3 : Word).toInt 2 5 = false ∧ witnessState.edgeRule.skips (4 : Word).toInt 1 5 = false ∧
    (EdgeRule.less .length (.add (.add .offset .width) (.const 1))).skips (0 : Word).toInt 4 5 = false ∧
    witnessState.fault = false ∧ resolve witnessState (.imm 0) = .ok 0 ∧ resolve witnessState (.reg 0) = .ok 1 ∧
    resolve witnessState (.reg 7) = .ok 3 ∧ resolve witnessState (.reg 8) = .ok 4 ∧
    witnessState.mem.bufLen (0 : Word).toNat = some 5 := by decide

/-- Offset -1, the first offset a long, a word and a byte do not fit at, and the last offset a long fits at under a rule with
its threshold one byte earlier. -/
theorem witness_LogicalCommandsSkipped :
    witnessState.fault = false ∧ resolve witnessState (.imm 0xFFFFFFFF) = .ok 0xFFFFFFFF ∧
    witnessState.mem.bufLen (0 : Word).toNat = some 5 ∧ 
    witnessState.edgeRule.skips (0xFFFFFFFF : Word).toInt 1 5 = true ∧
    witnessState.edgeRule.skips (2 : Word).toInt 4 5 = true ∧ witnessState.edgeRule.skips (4 : Word).toInt 2 5 = true ∧
    witnessState.edgeRule.skips (5 : Word).toInt 1 5 = true ∧
    (EdgeRule.less .length (.add (.add .offset .width) (.const 1))).skips (1 : Word).toInt 4 5 = true := by decide

theorem witness_BigEndianMixedWidths : 1 + 4 ≤ (Buffer.mk 5 [(1, 0x12)]).len := by decide

theorem witness_BufferBytesArePlainStorage :
    witnessState.hostRead 0 4 = some 5 ∧ ((1 : Nat) ≠ 0 ∨ (4 : Nat) ≠ 4) ∧ ((0 : Nat) ≠ 0 ∨ (3 : Nat) ≠ 4) := by decide

/-- Two buffers attached before the first command, one of them empty; no buffers at all; and an attempt after a command. -/
theorem witness_AttachedBuffersHoldTheirBytes :
    (witnessState.attach [[1, 0, 2], []]).map (fun t => (t.mem.wf, t.hostRead 0 2, t.hostRead 1 0)) =
      some (true, some 2, none) ∧
    (witnessState.attach []).isNone = true ∧
    ({ witnessState with rsp := Response.ofResult 0 }.attach [[1]]).isNone = true := by decide

theorem witness_BufferLengthsFixedUntilReset :
    (∃ t, witnessState.present ⟨0x80000000, 0, 0xF0, 0⟩ = .next t ∧ witnessState.cmdReady = true) ∧
    (∃ t, step (withProgram [⟨0x80000000, 0, 0xF0, 0⟩] 0 { witnessState with rsp := Response.ofResult 0 }) = .next t) ∧
    ({ witnessState with rsp := Response.ofResult 0 } : State).rsp.valid = true := ⟨⟨_, rfl, rfl⟩, ⟨_, rfl⟩, rfl⟩

theorem witness_EdgeRuleThreshold :
    ((5 : Nat) : Int) < 2 + (4 : Nat) ∧ ¬((5 : Nat) : Int) < 1 + (4 : Nat) ∧ (-1 : Int) < 0 := by decide

theorem witness_EveryEdgePredicateIsARule :
    (0 : Int) ≤ 1 ∧ (1 : Int) + (4 : Nat) ≤ (5 : Nat) ∧ 5 < 2 ^ 31 := by decide

/-- A failed run, and a program to start next. -/
theorem witness_SequencerStartsAtZero :
    let t := ({ withProgram [⟨0, 0, 0, 0⟩] 1 witnessState with fault := true, fcode := 1 } : State).startSequencer [(3, 2)]
      [⟨0x5100C000, 0, 0, 0⟩]
    (t.cpc, t.fault, t.reg 3, (nextState (step t)).map fun u => (u.cpc, u.reg 3)) = (0, false, 2, some (0, 1)) := by decide

/-- Each condition holds and fails somewhere (`t` always holds, `ra` never): the two states' flags are `Z` `N` `V` `C` all 1,
`X` alone, and `N` alone. -/
theorem witness_DecBranchCommandsFollowTheirConditions :
    (7 : RegNum).val ≤ 7 ∧ (0 : RegNum).val ≤ 7 ∧ (start 0b01111 []).fault = false ∧
    (let on := (start 0b01111 []).flags
     let off := (start 0b10000 []).flags
     let neg := (start 0b01000 []).flags
     (off.c = false ∧ off.z = false) ∧ ¬(on.c = false ∧ on.z = false) ∧
     (on.c = true ∨ on.z = true) ∧ ¬(off.c = true ∨ off.z = true) ∧
     off.v = false ∧ on.v = true ∧ off.n = false ∧ on.n = true ∧
     on.n = on.v ∧ neg.n ≠ neg.v ∧
     (off.z = false ∧ off.n = off.v) ∧ ¬(on.z = false ∧ on.n = on.v) ∧
     (neg.z = true ∨ neg.n ≠ neg.v) ∧ ¬(off.z = true ∨ off.n ≠ off.v)) := by decide

/-- A counter of 3, where the first clause speaks of 1, 2 and 3, and a counter of 0, where it is empty and the first
execution ends the loop. -/
theorem witness_DbraAnswersCounterPlusOneTimes :
    witnessState.fault = false ∧ (7 : RegNum).val ≤ 7 ∧ counterValue witnessState 7 = 3 ∧ 1 ≤ 3 ∧
    3 ≤ counterValue witnessState 7 ∧ counterValue witnessState 1 = 0 ∧
    branchResult 1 (execTimes (.dbra 1 0) 1 witnessState) = some (0xFFFF, false, 0b10101) := by decide

theorem witness_HelpersComputeByteOffsets :
    witnessState.fault = false ∧ resolve witnessState (.reg 15) = .ok 0x8000 ∧
    resolve witnessState (.imm 0xFFFFFFF7) = .ok 0xFFFFFFF7 ∧ resolve witnessState (.reg 0) = .ok 1 ∧
    witnessState.hdrRows.toInt = 24 := by decide

/-- A record for each of the five codes, and one that fails no check. -/
theorem witness_FaultExactlyWhenACheckFails :
    witnessState.cmdReady = true ∧ witnessState.fault = false ∧ witnessState.mem.buffers.length = 1 ∧
    firstFailure 1 ⟨0xE4C00001, 0, 0, 0⟩ = some 1 ∧ firstFailure 1 ⟨0xE0000001, 0, 0, 0⟩ = some 2 ∧
    firstFailure 1 ⟨0xE0680000, 0x63, 0, 0⟩ = some 3 ∧ firstFailure 1 ⟨0x80200000, 0x63, 0, 9⟩ = some 4 ∧
    firstFailure 1 ⟨0x80000000, 0, 0xF0, 1⟩ = some 5 ∧ firstFailure 1 ⟨0x80000000, 0, 0xF0, 0⟩ = none := by decide

theorem witness_MissingNamesRaiseBadRegister :
    witnessState.fault = false ∧ (Instr.radd (.imm 0) (.reg 16) none).wellFormed = false ∧
    (Instr.flgget 5 none).wellFormed = false ∧ (Instr.dbra 8 0).wellFormed = false := by decide

theorem witness_FaultedCoreAnswersError :
    ({ witnessState with fault := true, fcode := 5 } : State).fault = true ∧
    ({ witnessState with fault := true, fcode := 5 } : State).cmdReady = true := by decide

/-- Two cores that differ in registers, flags, buffer contents and lengths, and one record both answer. -/
theorem witness_FaultDependsOnRecordAndNbufOnly :
    witnessState.cmdReady = true ∧ (start 0 []).cmdReady = true ∧ witnessState.fault = false ∧ (start 0 []).fault = false ∧
    witnessState.mem.buffers.length = (start 0 []).mem.buffers.length ∧
    verdict (witnessState.present ⟨0x80000000, 0, 0xF0, 0⟩) = some (false, 0, false, 0xF1) ∧
    verdict ((start 0 []).present ⟨0x80000000, 0, 0xF0, 0⟩) = some (false, 0, false, 0) ∧
    verdict ((start 0 []).present ⟨0x80000000, 0, 0xF0, 1⟩) = some (true, 5, true, 0) := by decide

/-- A decrement-and-branch that loops again, one that faults, and a plain command. -/
theorem witness_StepRunsTheDecodedInstruction :
    let s := withProgram [⟨0x5101C000, 0xFFFFFFFF, 0, 0⟩, ⟨0x51020000, 0, 0, 0⟩, ⟨0x1004C000, 5, 0, 0⟩] 0 witnessState
    s.cmdReady = true ∧ s.fault = false ∧ 0 ≤ s.cpc ∧ s.program[s.cpc.toNat]? = some ⟨0x5101C000, 0xFFFFFFFF, 0, 0⟩ ∧
    decode ⟨0x5101C000, 0xFFFFFFFF, 0, 0⟩ = .ok (.dbra 7 0xFFFFFFFF) ∧
    decode ⟨0x51020000, 0, 0, 0⟩ = .ok (.dbra 8 0) ∧ decode ⟨0x1004C000, 5, 0, 0⟩ = .ok (.rmov (.imm 5) (some 3)) ∧
    branchResult 7 (exec (.dbra 7 0xFFFFFFFF) s) = some (2, true, 0b10101) ∧
    verdict (exec (.dbra 8 0) s) = some (true, 4, true, 0) := by decide

theorem witness_StepOnIllegalRecordFaults :
    let s := withProgram [⟨0, 0, 0, 0⟩, ⟨0xE0000000, 0, 0, 0⟩, ⟨0x51040000, 0, 0, 0⟩] 2 witnessState
    s.cmdReady = true ∧ s.fault = false ∧ 0 ≤ s.cpc ∧ s.program[s.cpc.toNat]? = some ⟨0x51040000, 0, 0, 0⟩ ∧
    decode ⟨0x51040000, 0, 0, 0⟩ = .error .illegalField ∧ decode ⟨0, 0, 0, 0⟩ = .error .illegalOpcode ∧
    decode ⟨0xE0000000, 0, 0, 0⟩ = .error .illegalSize := by decide

/-- `cpc` at the end, one before the start, one past the end; and a faulted core. -/
theorem witness_SequencerEndsItsRun :
    let s := withProgram [⟨0x1004C000, 5, 0, 0⟩] 1 witnessState
    s.cmdReady = true ∧ s.fault = false ∧ s.cpc = s.program.length ∧
    ({ s with cpc := -1 } : State).cpc < 0 ∧ (s.program.length : Int) < ({ s with cpc := 2 } : State).cpc ∧
    ({ s with fault := true } : State).fault = true := by decide

theorem witness_StepKeepsProgramAndPlatform :
    ∃ t, step (withProgram [⟨0x80000000, 0, 0xF0, 0⟩] 0 witnessState) = .next t := ⟨_, rfl⟩

/-- The invariant's parts on the witness state, and a step from it. -/
theorem witness_StepKeepsInvariant :
    Invariant (withProgram [⟨0x80000000, 0, 0xF0, 0⟩] 0 witnessState) ∧
    ∃ t, step (withProgram [⟨0x80000000, 0, 0xF0, 0⟩] 0 witnessState) = .next t := by
  refine ⟨⟨by decide, by decide, by decide, by decide, by decide, by decide⟩, _, rfl⟩

/-- Commands that answer with `BR` = 1, `SKIP` = 1 and `ERR` = 1. -/
theorem witness_ResponseOfEveryCommand :
    (nextState (exec (.dbra 7 0) witnessState)).map (fun t => t.rsp) = some ⟨true, 1, true, false, false⟩ ∧
    (nextState (exec (.orB (.imm 5) (.imm 1) 0 none) witnessState)).map (fun t => t.rsp) =
      some ⟨true, 0, false, true, false⟩ ∧
    (nextState (exec (.orB (.imm 5) (.imm 1) 1 none) witnessState)).map (fun t => t.rsp) =
      some ⟨true, 0, false, false, true⟩ := by decide

theorem witness_OnlyMemoryCommandsWriteBuffers :
    isMemoryCommand (.rmov (.imm 1) (some 0)) = false ∧
    ∃ t, exec (.rmov (.imm 1) (some 0)) witnessState = .next t := ⟨rfl, _, rfl⟩

theorem witness_DecBranchWritesNoFlag :
    isDecBranchCommand (.dble 7 0) = true ∧ ∃ t, exec (.dble 7 0) witnessState = .next t := ⟨rfl, _, rfl⟩

/-- A rotate, which leaves `X`, and a shift, which writes it. -/
theorem witness_ExtendIsReadOnlyByFlgget :
    isFlagRead (.rorW (.imm 1) (.imm 1) none) = false ∧ isFlagRead (.asrW (.imm 1) (.imm 1) none) = false ∧
    result (exec (.rorW (.imm 1) (.imm 1) none) witnessState) = some (0x8000, 0b11001) ∧
    result (exec (.asrW (.imm 1) (.imm 1) none) witnessState) = some (0, 0b10101) := by decide

end Sys2Proof.Tests
end

