-- ==== Sys2Proof/Proofs/State.lean ====
section
/-! PROOFS. The family 10_state.md: the registers and the status port, the flag `X` as an output that one command alone reads,
and the invariant that every step keeps. -/

namespace Sys2Proof.Proofs

open Sys2Proof Sys2Proof.Machine Sys2Proof.Safety

/-! ## The registers after reset and the status port -/

@[simp] theorem reset_reg (r : RegNum) : State.reset.reg r = 0 := zeroRegs_get r

/-- `rmov` of a readable operand has the operand as its result. -/
theorem effectOf_rmov_ok {src : Src} {s : State} {v : Word} (rd : Option RegNum) (h : resolve s src = .ok v) :
    effectOf (.rmov src rd) s = .ok (s.finish v rd) := by
  simp [effectOf, h]

/-- Settles O39: the operand resolves to the register, which holds 0 (10_state.md R26), and `rmov` answers it. -/
theorem registersZeroAtReset : Obligations.RegistersZeroAtReset := by
  intro r
  refine ⟨zeroRegs_get r, fun n hn => ?_⟩
  have hread : resolve State.reset (.reg n) = .ok 0 := by
    rw [resolve_reg_of_lt State.reset n (hn ▸ r.isLt), reset_reg]
  exact ⟨hread, _, exec_of_ok rfl (effectOf_rmov_ok none hread), rfl⟩

/-- `STATUS` is `FAULT` above the three bits of `FCODE` (10_state.md R35). -/
theorem status_views (s : State) : s.status.getLsbD 3 = s.fault ∧ s.status.extractLsb' 0 3 = s.fcode := by
  constructor
  · change (BitVec.ofBool s.fault ++ s.fcode).getLsbD 3 = s.fault
    rw [BitVec.getLsbD_append]
    simp
  · exact BitVec.extractLsb'_append_eq_right

/-- Settles O52: the bits of `CCR` are those of `Flags.toCcr`, and `STATUS` is a concatenation. -/
theorem statusPortViews : Obligations.StatusPortViews := by
  intro s
  obtain ⟨hc, hv, hz, hn, hx⟩ := s.flags.toCcr_getLsbD
  exact ⟨⟨hx, hn, hz, hv, hc⟩, status_views s⟩

/-! ## The invariant, part by part

`Invariant` speaks of three things that change separately: memory, the fault latch and the response. -/

/-- `FCODE` is 0 without a fault and a cause code with one (10_state.md R35, 60_exceptions.md R233). -/
def LatchFits (fault : Bool) (fcode : BitVec 3) : Prop :=
  (fault = false → fcode = 0) ∧ (fault = true → 1 ≤ fcode.toNat ∧ fcode.toNat ≤ 5)

/-- The response outputs fit together (30_encoding.md R73). -/
def ResponseFits (r : Response) : Prop :=
  (r.err = true → r.res = 0 ∧ r.br = false ∧ r.skip = false) ∧
  (r.skip = true → r.res = 0 ∧ r.br = false) ∧
  (r.br = true → r.res = 1)

theorem invariant_iff (s : State) :
    Invariant s ↔ s.mem.wf = true ∧ LatchFits s.fault s.fcode ∧ ResponseFits s.rsp := by
  simp only [Invariant, LatchFits, ResponseFits, and_assoc]

theorem latchFits_raised (c : Cause) : LatchFits true (causeCode c) := by
  cases c <;> exact ⟨nofun, fun _ => by decide⟩

theorem responseFits_ofResult (res : Word) : ResponseFits (.ofResult res) := ⟨nofun, nofun, nofun⟩

/-- With `BR` = 1 the result is zext(`BR`) = 1 (43_decrement_branch.md R173). -/
theorem responseFits_ofBranch (br : Bool) : ResponseFits (.ofBranch br) := by
  refine ⟨nofun, nofun, fun h => ?_⟩
  obtain rfl : br = true := h
  rfl

theorem responseFits_skipped : ResponseFits .skipped := ⟨nofun, fun _ => ⟨rfl, rfl⟩, nofun⟩

theorem responseFits_error : ResponseFits .error := ⟨fun _ => ⟨rfl, rfl, rfl⟩, nofun, nofun⟩

/-! ## What an effect does to each part -/

/-- No effect of an instruction moves the fault latch: `raise` alone does. -/
theorem effectShape_latch {s t : State} (h : EffectShape s t) : t.fault = s.fault ∧ t.fcode = s.fcode := by
  cases h with
  | finished | performed => exact ⟨State.finish_fault .., State.finish_fcode ..⟩
  | skipped | loopOver | decremented => exact ⟨rfl, rfl⟩

/-- Every effect answers with a result, a branch verdict or a skip. -/
theorem effectShape_responseFits {s t : State} (h : EffectShape s t) : ResponseFits t.rsp := by
  cases h with
  | finished | performed => exact responseFits_ofResult _
  | skipped => exact responseFits_skipped
  | loopOver | decremented => exact responseFits_ofBranch _

/-- Only a performed memory command writes memory, and it keeps the canonical form. -/
theorem effectShape_mem_wf {s t : State} (h : EffectShape s t) (hm : s.mem.wf = true) : t.mem.wf = true := by
  cases h with
  | finished => rwa [State.finish_mem]
  | performed k n number buf off mask rd attached => exact logicPerform_wf k n s number buf off mask rd hm attached
  | skipped | loopOver | decremented => exact hm

/-! ## The invariant along a step -/

theorem raise_keeps_invariant {s : State} (c : Cause) (h : Invariant s) : Invariant (s.raise c) := by
  rw [invariant_iff] at h ⊢
  obtain ⟨hmem, -, -⟩ := h
  exact ⟨hmem, latchFits_raised c, responseFits_error⟩

theorem effect_keeps_invariant {i : Instr} {s t : State} (he : effectOf i s = .ok t) (h : Invariant s) : Invariant t := by
  rw [invariant_iff] at h ⊢
  obtain ⟨hmem, hlatch, -⟩ := h
  have shape := effectOf_shape he
  obtain ⟨hfault, hfcode⟩ := effectShape_latch shape
  exact ⟨effectShape_mem_wf shape hmem, by rwa [hfault, hfcode], effectShape_responseFits shape⟩

/-- The command index is no part of the invariant. -/
theorem invariant_advance_iff (s : State) (r : Record) : Invariant (s.advance r) ↔ Invariant s := Iff.rfl

/-- Settles O47, by what a step can do: nothing, raise a cause (in decoding or in the command), or have an effect. -/
theorem stepKeepsInvariant : Obligations.StepKeepsInvariant := by
  intro s t hinv hstep
  rcases step_next_cases hstep with
    rfl | ⟨r, -, -, -, ⟨c, -, rfl⟩ | ⟨i, c, -, -, rfl⟩ | ⟨i, u, -, heffect, rfl⟩⟩
  · exact hinv
  · exact (invariant_advance_iff _ r).mpr (raise_keeps_invariant c hinv)
  · exact (invariant_advance_iff _ r).mpr (raise_keeps_invariant c hinv)
  · exact (invariant_advance_iff _ r).mpr (effect_keeps_invariant heffect hinv)

/-! ## The state with another `X`

Two runs that differ in `X` alone are compared with `X` erased in what they answer. -/

/-- The state with `X` replaced. -/
def withX (s : State) (b : Bool) : State := { s with flags := { s.flags with x := b } }

/-- The outcome of an effect, `X` erased. -/
def eraseX (e : Except Cause State) : Except Cause State := e.map (withX · false)

theorem withX_withX (s : State) (b c : Bool) : withX (withX s b) c = withX s c := rfl

theorem withX_self (s : State) : withX s s.flags.x = s := rfl

/-- States that agree with `X` erased agree once one takes the other's `X`. -/
theorem withX_eq_of_erased {t u : State} (h : withX u false = withX t false) : withX u t.flags.x = t := by
  calc withX u t.flags.x = withX (withX u false) t.flags.x := (withX_withX ..).symm
    _ = withX (withX t false) t.flags.x := by rw [h]
    _ = withX t t.flags.x := withX_withX ..
    _ = t := withX_self t

/-- Writing a result back and replacing `X` commute. -/
theorem withX_finish (s : State) (res : Word) (rd : Option RegNum) (b : Bool) :
    withX (s.finish res rd) b = (withX s b).finish res rd := by
  cases rd <;> rfl

/-! ## What does not read `X` -/

theorem resolve_withX (s : State) (b : Bool) (a : Src) : resolve (withX s b) a = resolve s a :=
  resolve_congr _ _ a rfl

theorem resolveBuffer_withX (s : State) (b : Bool) (n : Word) : resolveBuffer (withX s b) n = resolveBuffer s n := rfl

/-- None of the sixteen conditions looks at `X` (43_decrement_branch.md R172). -/
theorem condHolds_withX (k : Cond) (s : State) (b : Bool) : condHolds k (withX s b).flags = condHolds k s.flags := by
  cases k <;> rfl

/-- Setting a flag, `X` erased, does not depend on the old `X`. -/
theorem flagSet_eraseX (f : Flags) (name : Flag) (v b : Bool) :
    { ({ f with x := b } : Flags).set name v with x := false } = { f.set name v with x := false } := by
  cases name <;> rfl

/-- Checks that read the same value and go on alike have outcomes alike. -/
theorem eraseX_bind_congr {α : Type} (e : Except Cause α) {f g : α → Except Cause State}
    (h : ∀ a, eraseX (f a) = eraseX (g a)) : eraseX (e >>= f) = eraseX (e >>= g) := by
  cases e with
  | error c => rfl
  | ok a => exact h a

/-- Two commands that finish with the same result are alike where the states they finish in are. -/
theorem eraseX_finish_congr {s t : State} (res : Word) (rd : Option RegNum) (h : withX s false = withX t false) :
    eraseX (.ok (s.finish res rd)) = eraseX (.ok (t.finish res rd)) := by
  simp only [eraseX, Except.map, withX_finish, h]

/-! ## The effects with another `X` -/

/-- A shift or rotate passes the old `X` on at most into the new `X` (41_shift_rotate.md R124). -/
theorem shiftEffect_withX (width : Nat) (k : ShiftKind) (value count : Src) (rd : Option RegNum) (s : State) (b : Bool) :
    eraseX (shiftEffect width k value count rd (withX s b)) = eraseX (shiftEffect width k value count rd s) := by
  unfold shiftEffect
  rw [resolve_withX, resolve_withX]
  exact eraseX_bind_congr _ fun _ => eraseX_bind_congr _ fun _ => eraseX_finish_congr _ _ rfl

/-- AND and OR keep `X` (42_logical_memory.md R153). -/
theorem logicEffect_withX (k : LogicKind) (n : Nat) (offset value : Src) (buffer : Word) (rd : Option RegNum) (s : State)
    (b : Bool) :
    eraseX (logicEffect k n offset value buffer rd (withX s b)) = eraseX (logicEffect k n offset value buffer rd s) := by
  unfold logicEffect
  rw [resolve_withX, resolve_withX, resolveBuffer_withX]
  refine eraseX_bind_congr _ fun x => eraseX_bind_congr _ fun _ => eraseX_bind_congr _ fun buf => ?_
  change eraseX (.ok (if s.edgeRule.skips x.toInt n buf.len.val then _ else _)) = _
  split
  · rfl
  · exact eraseX_finish_congr _ _ rfl

/-- A decrement-and-branch command keeps all flags and its condition does not read `X` (43_decrement_branch.md R172, R192). -/
theorem decBranchEffect_withX (k : Cond) (counter : RegNum) (s : State) (b : Bool) :
    eraseX (decBranchEffect k counter (withX s b)) = eraseX (decBranchEffect k counter s) := by
  unfold decBranchEffect
  rw [condHolds_withX]
  refine eraseX_bind_congr _ fun _ => ?_
  split <;> rfl

theorem offsetEffect_withX (header : Int) (stride x y : Src) (rd : Option RegNum) (s : State) (b : Bool) :
    eraseX (offsetEffect header stride x y rd (withX s b)) = eraseX (offsetEffect header stride x y rd s) := by
  unfold offsetEffect
  rw [resolve_withX, resolve_withX, resolve_withX]
  exact eraseX_bind_congr _ fun _ => eraseX_bind_congr _ fun _ => eraseX_bind_congr _ fun _ => eraseX_finish_congr _ _ rfl

/-- No effect but that of `flgget` reads `X` (10_state.md R30). -/
theorem effectOf_withX {i : Instr} (hi : isFlagRead i = false) (s : State) (b : Bool) :
    eraseX (effectOf i (withX s b)) = eraseX (effectOf i s) := by
  cases i
  case flgget => cases hi
  case rmov src rd =>
    simp only [effectOf, resolve_withX]
    exact eraseX_bind_congr _ fun _ => eraseX_finish_congr _ _ rfl
  case radd a c rd =>
    simp only [effectOf, resolve_withX]
    exact eraseX_bind_congr _ fun _ => eraseX_bind_congr _ fun _ => eraseX_finish_congr _ _ rfl
  case flgset flag src =>
    simp only [effectOf, resolve_withX]
    refine eraseX_bind_congr _ fun f => eraseX_bind_congr _ fun _ => eraseX_finish_congr _ _ ?_
    exact congrArg (fun g => { s with flags := g }) (flagSet_eraseX s.flags f _ b)
  case orB | orW | orL | andB | andW | andL => exact logicEffect_withX ..
  case offs | offsHdr => exact offsetEffect_withX ..
  case asrW | asrL | aslW | aslL | lsrW | lsrL | lslW | lslL | rorW | rorL | rolW | rolL => exact shiftEffect_withX ..
  all_goals exact decBranchEffect_withX ..

/-- Outcomes alike settle alike: the fault latch does not look at `X`, and a cause raised changes no flag. -/
theorem settle_withX (s : State) (b : Bool) {e e' : Except Cause State} (h : eraseX e' = eraseX e) :
    withX ((withX s b).settle e') false = withX (s.settle e) false := by
  cases hf : s.fault with
  | true =>
    rw [State.settle_faulted s e hf, State.settle_faulted (withX s b) e' hf]
    rfl
  | false =>
    cases e with
    | error c =>
      cases e' with
      | error c' =>
        obtain rfl : c' = c := Except.error.inj h
        rw [State.settle_error s _ hf, State.settle_error (withX s b) _ hf]
        rfl
      | ok u => cases h
    | ok t =>
      cases e' with
      | error c' => cases h
      | ok u =>
        rw [State.settle_ok s t hf, State.settle_ok (withX s b) u hf]
        exact Except.ok.inj h

/-- Settles O51: the two effects are alike but for `X`, and so is what they settle to. -/
theorem extendIsReadOnlyByFlgget : Obligations.ExtendIsReadOnlyByFlgget := by
  intro i s t b hi hexec
  rw [exec_eq] at hexec
  injection hexec with ht
  subst ht
  exact ⟨_, exec_eq i (withX s b), withX_eq_of_erased (settle_withX s b (effectOf_withX hi s b))⟩

end Sys2Proof.Proofs
end

/-! PROOFS. The family 20_memory.md: when an access is skipped, what a byte of a buffer reads as, which buffers the host can
attach and when, and what a command leaves of memory and of what belongs to the host. -/

namespace Sys2Proof.Proofs

open Sys2Proof Sys2Proof.Machine Sys2Proof.Safety

/-! ## The parameter `EDGE_RULE` -/

/-- A rule skips what lies outside the buffer, and of the rest what its data says. -/
theorem skips_iff (r : EdgeRule) (off : Int) (n len : Nat) :
    r.skips off n len = true ↔ off < 0 ∨ (len : Int) < off + n ∨ r.skipsInside off n len = true := by
  simp [EdgeRule.skips, or_assoc]

theorem skips_of_inside (r : EdgeRule) {off : Int} {n len : Nat} (h0 : 0 ≤ off) (hn : off + n ≤ len) :
    r.skips off n len = r.skipsInside off n len := by
  simp [EdgeRule.skips, Int.not_lt.mpr h0, Int.not_lt.mpr hn]

/-- Settles O23: the default adds nothing to the accesses outside the buffer, a margin adds those that come too near its
end (20_memory.md R57, R60). -/
theorem edgeRuleThreshold : Obligations.EdgeRuleThreshold := by
  refine ⟨fun off n len => ?_, fun off n len margin => ?_, fun r off n len => r.skips_of_outside⟩
  · have hnever : defaultEdgeRule.skipsInside off n len = false := rfl
    simp [skips_iff, hnever]
  · have hmargin : (EdgeRule.less .length (.add (.add .offset .width) (.const margin))).skipsInside off n len = true ↔
        (len : Int) < off + n + margin := decide_eq_true_iff
    rw [skips_iff, hmargin]
    omega

/-- The rule that two numbers are equal: neither is less. -/
def equalRule (a b : EdgeTerm) : EdgeRule := .and (.not (.less a b)) (.not (.less b a))

theorem equalRule_skipsInside (a b : EdgeTerm) (off : Int) (n len : Nat) :
    (equalRule a b).skipsInside off n len = decide (a.value off n len = b.value off n len) := by
  rw [Bool.eq_iff_iff]
  simp only [equalRule, EdgeRule.skipsInside, Bool.and_eq_true, Bool.not_eq_true', decide_eq_false_iff_not, decide_eq_true_eq]
  omega

/-- An access: the offset, the width and the length. -/
abbrev Access := Int × Nat × Nat

/-- The rule for one access alone. -/
def singleRule (p : Access) : EdgeRule :=
  .and (equalRule .offset (.const p.1)) (.and (equalRule .width (.const p.2.1)) (equalRule .length (.const p.2.2)))

theorem singleRule_skipsInside (p : Access) (off : Int) (n len : Nat) :
    (singleRule p).skipsInside off n len = decide ((off, n, len) = p) := by
  obtain ⟨a, b, c⟩ := p
  rw [Bool.eq_iff_iff]
  simp only [singleRule, EdgeRule.skipsInside, equalRule_skipsInside, Bool.and_eq_true, decide_eq_true_eq]
  simp only [EdgeTerm.value, Nat.cast_inj, Prod.mk.injEq]

/-- The rule for the accesses of a list. -/
def listRule : List Access → EdgeRule
  | [] => .never
  | p :: rest => .or (singleRule p) (listRule rest)

theorem listRule_skipsInside (l : List Access) (off : Int) (n len : Nat) :
    (listRule l).skipsInside off n len = decide ((off, n, len) ∈ l) := by
  induction l with
  | nil => simp [listRule, EdgeRule.skipsInside]
  | cons p rest ih => simp [listRule, EdgeRule.skipsInside, singleRule_skipsInside, ih]

/-- The accesses inside a buffer shorter than a bound are finitely many. -/
theorem finite_accesses (bound : Nat) :
    {p : Access | 0 ≤ p.1 ∧ p.1 + p.2.1 ≤ p.2.2 ∧ p.2.2 < bound}.Finite := by
  refine ((Set.finite_Icc (0 : Int) bound).prod ((Set.finite_Iio bound).prod (Set.finite_Iio bound))).subset ?_
  rintro ⟨off, n, len⟩ ⟨h0, hn, hlen⟩
  simp only [Set.mem_prod, Set.mem_Icc, Set.mem_Iio] at h0 hn hlen ⊢
  omega

/-- On finitely many accesses a rule can be any predicate: it lists those the predicate holds of. -/
theorem exists_rule_of_finite {accesses : Set Access} (hfin : accesses.Finite) (p : Int → Nat → Nat → Bool) :
    ∃ r : EdgeRule, ∀ off n len, (off, n, len) ∈ accesses → r.skipsInside off n len = p off n len := by
  refine ⟨listRule (hfin.toFinset.filter fun a => p a.1 a.2.1 a.2.2).toList, fun off n len hmem => ?_⟩
  rw [listRule_skipsInside]
  simp [hmem]

/-- Settles O24: the accesses inside a buffer of a legal length are finitely many. -/
theorem everyEdgePredicateIsARule : Obligations.EveryEdgePredicateIsARule := by
  intro p
  obtain ⟨r, hr⟩ := exists_rule_of_finite (finite_accesses (2 ^ 31)) p
  refine ⟨r, fun off n len h0 hn hlen => ?_⟩
  rw [skips_of_inside r h0 hn]
  exact hr off n len ⟨h0, hn, hlen⟩

/-- A logical command with readable operands and an attached buffer, where the rule skips the access, has no effect but
its response. -/
theorem logicSkips_of_effect {k : LogicKind} {n : Nat} {mk : Src → Src → Word → Option RegNum → Instr}
    (hmk : ∀ offset value b rd s, effectOf (mk offset value b rd) s = logicEffect k n offset value b rd s) :
    LogicSkips n mk := by
  intro offset value b rd s op1 op2 len hf h1 h2 hlen hskip
  obtain ⟨buf, hbuf, rfl⟩ := Memory.bufLen_some hlen
  refine exec_of_ok hf ?_
  rw [hmk, logicEffect_ok k n offset value b rd s op1 op2 buf h1 h2 hbuf, if_pos hskip]
  rfl

/-- Settles O26: each of the six commands is `logicEffect` at its operation and width. -/
theorem logicalCommandsSkipped : Obligations.LogicalCommandsSkipped :=
  ⟨logicSkips_of_effect (k := .and) fun _ _ _ _ _ => rfl, logicSkips_of_effect (k := .and) fun _ _ _ _ _ => rfl,
    logicSkips_of_effect (k := .and) fun _ _ _ _ _ => rfl, logicSkips_of_effect (k := .or) fun _ _ _ _ _ => rfl,
    logicSkips_of_effect (k := .or) fun _ _ _ _ _ => rfl, logicSkips_of_effect (k := .or) fun _ _ _ _ _ => rfl⟩

/-! ## Byte order -/

/-- `MemRead` of `m` bytes, `j` bytes into the `n` that `MemWrite` wrote, gives the `m` bytes of the value that stand there
(20_memory.md R53, R54). -/
theorem memRead_memWrite (b : Buffer) (off : Nat) (v : Word) {n m j : Nat} (hn : n ≤ 4) (hm : j + m ≤ n)
    (hfit : off + n ≤ b.len.val) :
    (b.memWrite off n v).memRead (off + j) m = (v.extractLsb' (8 * (n - j - m)) (8 * m)).setWidth 32 := by
  apply BitVec.eq_of_getLsbD_eq
  intro i hi
  rw [Buffer.memRead_getLsbD _ _ _ _ (by omega), BitVec.getLsbD_setWidth, BitVec.getLsbD_extractLsb', Nat.add_assoc]
  by_cases him : i < 8 * m
  · have hbit : 8 * (n - 1 - (j + (m - 1 - i / 8))) + i % 8 = 8 * (n - j - m) + i := by omega
    have hlow : i % 8 < 8 := Nat.mod_lt _ (by decide)
    rw [Buffer.memWrite_inside b off n _ v (by omega) hfit, BitVec.getLsbD_extractLsb', hbit]
    simp [him, hi, hlow]
  · simp [him]

/-- Settles O27: the four reads are of the bytes 0 to 3, 0, 2 to 3 and 1 to 2 of the long (20_memory.md R55). -/
theorem bigEndianMixedWidths : Obligations.BigEndianMixedWidths := by
  intro b off v hfit
  have hread {m j : Nat} (hm : j + m ≤ 4) := memRead_memWrite b off v (Nat.le_refl 4) hm hfit
  refine ⟨?_, hread (m := 1) (j := 0) (by decide), hread (m := 2) (j := 2) (by decide),
    hread (m := 2) (j := 1) (by decide)⟩
  have hwhole := hread (m := 4) (j := 0) (by decide)
  simpa using hwhole

/-! ## Bytes of memory -/

theorem byteAt_eq_some {m : Memory} {b off : Nat} {w : Byte} (h : m.byteAt b off = some w) :
    ∃ buf, m.buffer b = some buf ∧ off < buf.len.val := by
  unfold Memory.byteAt at h
  split at h
  · cases h
  · next buf hbuf =>
    split at h
    · next hlt => exact ⟨buf, hbuf, hlt⟩
    · cases h

/-- A byte depends on its own buffer alone. -/
theorem byteAt_congr {m m' : Memory} {b : Nat} (h : m'.buffer b = m.buffer b) (off : Nat) :
    m'.byteAt b off = m.byteAt b off := by
  unfold Memory.byteAt
  rw [h]

/-- In a buffer replaced by one of its length, a byte that the two hold alike reads as before. -/
theorem byteAt_setBuffer_of_readByte {m : Memory} {b off : Nat} {old new : Buffer} (h : m.buffer b = some old)
    (hlen : new.len = old.len) (hread : new.readByte off = old.readByte off) :
    (m.setBuffer b new).byteAt b off = m.byteAt b off := by
  simp only [Memory.byteAt, m.buffer_setBuffer_self b new old h, h, hlen, hread]

theorem hostWrite_of_buffer {s : State} {b : Nat} {buf : Buffer} (h : s.mem.buffer b = some buf) (off : Nat) (v : Byte) :
    s.hostWrite b off v = { s with mem := s.mem.setBuffer b (buf.writeByte off v) } := by
  simp only [State.hostWrite, h]

theorem hostWrite_of_none {s : State} {b : Nat} (h : s.mem.buffer b = none) (off : Nat) (v : Byte) :
    s.hostWrite b off v = s := by
  simp only [State.hostWrite, h]

/-- What a host write can do: nothing where there is no such buffer, and else one byte of that buffer. -/
theorem hostWrite_cases (s : State) (b off : Nat) (v : Byte) :
    s.hostWrite b off v = s ∨
    ∃ buf, s.mem.buffer b = some buf ∧ s.hostWrite b off v = { s with mem := s.mem.setBuffer b (buf.writeByte off v) } := by
  cases h : s.mem.buffer b with
  | none => exact .inl (hostWrite_of_none h off v)
  | some buf => exact .inr ⟨buf, rfl, hostWrite_of_buffer h off v⟩

/-- A byte that exists reads as the host wrote it (20_memory.md R67). -/
theorem hostRead_hostWrite_self {s : State} {b off : Nat} {w : Byte} (v : Byte) (h : s.hostRead b off = some w) :
    (s.hostWrite b off v).hostRead b off = some v := by
  obtain ⟨buf, hbuf, hlt⟩ := byteAt_eq_some h
  rw [hostWrite_of_buffer hbuf, State.hostRead,
    Memory.byteAt_of_buffer _ b off _ (s.mem.buffer_setBuffer_self b _ buf hbuf) (by simpa using hlt),
    buf.readByte_writeByte_self off v hlt]

/-- A host write changes no other byte (20_memory.md R67). -/
theorem hostRead_hostWrite_other (s : State) {b off b' off' : Nat} (v : Byte) (h : b' ≠ b ∨ off' ≠ off) :
    (s.hostWrite b off v).hostRead b' off' = s.hostRead b' off' := by
  rcases hostWrite_cases s b off v with hw | ⟨buf, hbuf, hw⟩
  · rw [hw]
  · rw [hw]
    by_cases hb : b' = b
    · subst hb
      have hoff : off' ≠ off := h.resolve_left fun hne => hne rfl
      exact byteAt_setBuffer_of_readByte hbuf (buf.writeByte_len off v) (buf.readByte_writeByte_other off off' v hoff)
    · exact byteAt_congr (s.mem.buffer_setBuffer_other b b' _ hb) off'

/-- Settles O28: read after write, and the frame of a write. -/
theorem bufferBytesArePlainStorage : Obligations.BufferBytesArePlainStorage := by
  intro s b off v
  exact ⟨fun _ => hostRead_hostWrite_self v, fun _ _ => hostRead_hostWrite_other s v⟩

/-! ## Attaching buffers -/

theorem attach_of_valid {s : State} (h : s.rsp.valid = true) (contents : List (List Byte)) : s.attach contents = none := by
  simp [State.attach, h]

theorem buffersOfBytes_isSome_iff (contents : List (List Byte)) :
    (buffersOfBytes contents).isSome = true ↔ ∀ bytes ∈ contents, bytes.length ≤ 2 ^ 31 - 1 := by
  rw [buffersOfBytes_isSome, List.all_eq_true]
  refine forall₂_congr fun bytes _ => ?_
  rw [decide_eq_true_iff]
  omega

/-- When the host can attach buffers (00_scope.md R9, 20_memory.md R52). -/
theorem attach_succeeds_iff (s : State) (contents : List (List Byte)) :
    (∃ t, s.attach contents = some t) ↔
      s.rsp.valid = false ∧ 1 ≤ contents.length ∧ contents.length ≤ 2 ^ 32 ∧
      ∀ bytes ∈ contents, bytes.length ≤ 2 ^ 31 - 1 := by
  rw [← buffersOfBytes_isSome_iff]
  constructor
  · rintro ⟨t, ht⟩
    obtain ⟨hvalid, hmin, hmax, bs, hbs, -⟩ := State.attach_eq_some ht
    exact ⟨hvalid, hmin, hmax, by rw [hbs]; rfl⟩
  · rintro ⟨hvalid, hmin, hmax, hsome⟩
    obtain ⟨bs, hbs⟩ := Option.isSome_iff_exists.mp hsome
    exact ⟨{ s with mem := ⟨bs⟩ }, by rw [State.attach, hvalid, if_neg nofun, if_pos ⟨hmin, hmax⟩, hbs]; rfl⟩

/-- The buffers of byte lists within the limits are memory in canonical form. -/
theorem buffersOfBytes_wf {contents : List (List Byte)} {bs : List Buffer} (h : buffersOfBytes contents = some bs)
    (hmin : 1 ≤ contents.length) (hmax : contents.length ≤ 2 ^ 32) : (Memory.mk bs).wf = true := by
  obtain ⟨hlength, heach⟩ := buffersOfBytes_eq_some h
  refine (Memory.wf_iff _).mpr ⟨hlength ▸ hmin, hlength ▸ hmax, fun b hb => ?_⟩
  obtain ⟨i, hi⟩ := List.mem_iff_getElem?.mp hb
  rcases heach i with ⟨hnone, -⟩ | ⟨b', bytes, hb', -, hof⟩
  · simp [hnone] at hi
  · obtain rfl : b' = b := Option.some.inj (hb'.symm.trans hi)
    obtain ⟨-, hwf, -⟩ := Buffer.ofBytes_eq_some hof
    exact hwf

/-- Each of the buffers has the length of its byte list. -/
theorem buffersOfBytes_bufLen {contents : List (List Byte)} {bs : List Buffer} (h : buffersOfBytes contents = some bs)
    (b : Nat) : (Memory.mk bs).bufLen b = (contents[b]?).map List.length := by
  obtain ⟨-, heach⟩ := buffersOfBytes_eq_some h
  unfold Memory.bufLen Memory.buffer
  rcases heach b with ⟨hnone, hcontents⟩ | ⟨buf, bytes, hbuf, hcontents, hof⟩
  · rw [hnone, hcontents]
    rfl
  · obtain ⟨hlen, -, -⟩ := Buffer.ofBytes_eq_some hof
    rw [hbuf, hcontents, Option.map_some, Option.map_some, hlen]

/-- Each of the buffers holds the bytes of its list and no others. -/
theorem buffersOfBytes_byteAt {contents : List (List Byte)} {bs : List Buffer} (h : buffersOfBytes contents = some bs)
    (b off : Nat) : (Memory.mk bs).byteAt b off = (contents[b]?).bind fun bytes => bytes[off]? := by
  obtain ⟨-, heach⟩ := buffersOfBytes_eq_some h
  unfold Memory.byteAt Memory.buffer
  rcases heach b with ⟨hnone, hcontents⟩ | ⟨buf, bytes, hbuf, hcontents, hof⟩
  · simp [hnone, hcontents]
  · obtain ⟨hlen, -, hread⟩ := Buffer.ofBytes_eq_some hof
    simp only [hbuf, hcontents, hlen, Option.bind_some]
    split
    · next hlt => rw [hread off hlt, List.getElem?_eq_getElem hlt]
    · next hge => rw [List.getElem?_eq_none (Nat.not_lt.mp hge)]

/-- Settles O29: when `attach` answers, and the buffers it puts in place. -/
theorem attachedBuffersHoldTheirBytes : Obligations.AttachedBuffersHoldTheirBytes := by
  intro s contents
  refine ⟨attach_succeeds_iff s contents, fun t ht => ?_⟩
  obtain ⟨-, hmin, hmax, bs, hbs, rfl⟩ := State.attach_eq_some ht
  exact ⟨rfl, buffersOfBytes_wf hbs hmin hmax, buffersOfBytes_bufLen hbs, buffersOfBytes_byteAt hbs⟩

/-! ## The lengths of the buffers, and the time to attach -/

/-- A performed memory command writes bytes of an attached buffer; nothing changes a length (20_memory.md R52). -/
theorem effectShape_lens {s t : State} (h : EffectShape s t) :
    t.mem.buffers.map Buffer.len = s.mem.buffers.map Buffer.len := by
  cases h with
  | finished => rw [State.finish_mem]
  | performed k n number buf off mask rd attached =>
    rw [logicPerform, State.finish_mem]
    exact s.mem.setBuffer_lens number _ buf attached (buf.memWrite_len ..)
  | skipped | loopOver | decremented => rfl

/-- Every effect is a command answered. -/
theorem effectShape_valid {s t : State} (h : EffectShape s t) : t.rsp.valid = true := by
  cases h <;> rfl

/-- What a record presented to the command port can do: nothing while the core is not ready, and else be answered while
faulted, raise a cause (in decoding or in the command), or have its instruction's effect. -/
theorem present_next_cases {s t : State} {r : Record} (h : s.present r = .next t) :
    (s.cmdReady = false ∧ t = s) ∨
    (s.cmdReady = true ∧ (t = s.answerFaulted ∨ (∃ c, t = s.raise c) ∨ ∃ i, effectOf i s = .ok t)) := by
  unfold State.present at h
  cases hready : s.cmdReady with
  | false =>
    rw [hready] at h
    injection h with h
    exact .inl ⟨rfl, h.symm⟩
  | true =>
    rw [hready, if_pos rfl] at h
    refine .inr ⟨rfl, ?_⟩
    cases hd : decode r with
    | error c =>
      unfold State.issue at h
      rw [hd] at h
      injection h with h
      rcases s.settle_cases (.error c) with ⟨-, hs⟩ | ⟨-, c', -, hs⟩ | ⟨-, u, hu, -⟩
      · exact .inl (h.symm.trans hs)
      · exact .inr (.inl ⟨c', h.symm.trans hs⟩)
      · cases hu
    | ok i =>
      rw [s.issue_of_ok hd] at h
      rcases exec_next_cases h with ⟨-, ht⟩ | ⟨-, c, -, ht⟩ | ⟨-, ht⟩
      · exact .inl ht
      · exact .inr (.inl ⟨c, ht⟩)
      · exact .inr (.inr ⟨i, ht⟩)

theorem present_lens {s t : State} {r : Record} (h : s.present r = .next t) :
    t.mem.buffers.map Buffer.len = s.mem.buffers.map Buffer.len := by
  rcases present_next_cases h with ⟨-, rfl⟩ | ⟨-, rfl | ⟨c, rfl⟩ | ⟨i, he⟩⟩
  · rfl
  · rfl
  · rfl
  · exact effectShape_lens (effectOf_shape he)

/-- A record presented to a ready core is answered, and an answer stands until the next. -/
theorem present_valid {s t : State} {r : Record} (h : s.present r = .next t)
    (hs : s.cmdReady = true ∨ s.rsp.valid = true) : t.rsp.valid = true := by
  rcases present_next_cases h with ⟨hready, rfl⟩ | ⟨-, rfl | ⟨c, rfl⟩ | ⟨i, he⟩⟩
  · exact hs.resolve_left fun hr => by simp [hr] at hready
  · rfl
  · rfl
  · exact effectShape_valid (effectOf_shape he)

theorem step_lens {s t : State} (h : step s = .next t) : t.mem.buffers.map Buffer.len = s.mem.buffers.map Buffer.len := by
  rcases step_next_cases h with rfl | ⟨r, -, -, -, ⟨c, -, rfl⟩ | ⟨i, c, -, -, rfl⟩ | ⟨i, u, -, he, rfl⟩⟩
  · rfl
  · rfl
  · rfl
  · exact effectShape_lens (t := u) (effectOf_shape he)

theorem step_valid {s t : State} (h : step s = .next t) (hs : s.rsp.valid = true) : t.rsp.valid = true := by
  rcases step_next_cases h with rfl | ⟨r, -, -, -, ⟨c, -, rfl⟩ | ⟨i, c, -, -, rfl⟩ | ⟨i, u, -, he, rfl⟩⟩
  · exact hs
  · rfl
  · rfl
  · exact effectShape_valid (t := u) (effectOf_shape he)

theorem hostWrite_lens (s : State) (b off : Nat) (v : Byte) :
    (s.hostWrite b off v).mem.buffers.map Buffer.len = s.mem.buffers.map Buffer.len := by
  rcases hostWrite_cases s b off v with hw | ⟨buf, hbuf, hw⟩
  · rw [hw]
  · rw [hw]
    exact s.mem.setBuffer_lens b _ buf hbuf (buf.writeByte_len off v)

theorem hostWrite_rsp (s : State) (b off : Nat) (v : Byte) : (s.hostWrite b off v).rsp = s.rsp := by
  rcases hostWrite_cases s b off v with hw | ⟨buf, -, hw⟩ <;> rw [hw]

/-- Settles O30: no record, step or host write changes a length or takes back `RSP_VALID`, which refuses `attach`. -/
theorem bufferLengthsFixedUntilReset : Obligations.BufferLengthsFixedUntilReset := by
  intro s
  refine ⟨fun r t ht => ⟨present_lens ht, fun hs => attach_of_valid (present_valid ht hs)⟩,
    fun t ht => ⟨step_lens ht, fun hs => attach_of_valid (step_valid ht hs)⟩,
    fun b off v => ⟨hostWrite_lens s b off v, fun hs => attach_of_valid ?_⟩⟩
  rwa [hostWrite_rsp]

/-! ## What a command leaves alone -/

/-- What belongs to the host is the same in two states: the command index, the program, the parameters and the command port
(10_state.md R27). -/
def SameHostPart (s t : State) : Prop :=
  t.cpc = s.cpc ∧ t.program = s.program ∧ t.hdrRows = s.hdrRows ∧ t.flagReset = s.flagReset ∧ t.edgeRule = s.edgeRule ∧
  t.cmdReady = s.cmdReady

theorem sameHostPart_finish (s : State) (res : Word) (rd : Option RegNum) : SameHostPart s (s.finish res rd) := by
  cases rd <;> exact ⟨rfl, rfl, rfl, rfl, rfl, rfl⟩

/-- No effect touches what belongs to the host. -/
theorem effectShape_sameHostPart {s t : State} (h : EffectShape s t) : SameHostPart s t := by
  cases h with
  | finished f res rd => exact sameHostPart_finish { s with flags := f } res rd
  | performed => exact sameHostPart_finish { s with mem := _, flags := _ } _ _
  | skipped | loopOver | decremented => exact ⟨rfl, rfl, rfl, rfl, rfl, rfl⟩

theorem exec_sameHostPart {i : Instr} {s t : State} (h : exec i s = .next t) : SameHostPart s t := by
  rcases exec_next_cases h with ⟨-, rfl⟩ | ⟨-, c, -, rfl⟩ | ⟨-, he⟩
  · exact ⟨rfl, rfl, rfl, rfl, rfl, rfl⟩
  · exact ⟨rfl, rfl, rfl, rfl, rfl, rfl⟩
  · exact effectShape_sameHostPart (effectOf_shape he)

theorem shiftEffect_mem {width : Nat} {k : ShiftKind} {value count : Src} {rd : Option RegNum} {s t : State}
    (h : shiftEffect width k value count rd s = .ok t) : t.mem = s.mem := by
  obtain ⟨_, -, h⟩ := bind_eq_ok _ _ _ h
  obtain ⟨_, -, h⟩ := bind_eq_ok _ _ _ h
  cases h
  exact State.finish_mem ..

theorem decBranchEffect_mem {k : Cond} {d : RegNum} {s t : State} (h : decBranchEffect k d s = .ok t) :
    t.mem = s.mem := by
  obtain ⟨_, -, h⟩ := bind_eq_ok _ _ _ h
  cases h
  split <;> rfl

theorem offsetEffect_mem {header : Int} {stride x y : Src} {rd : Option RegNum} {s t : State}
    (h : offsetEffect header stride x y rd s = .ok t) : t.mem = s.mem := by
  obtain ⟨_, -, h⟩ := bind_eq_ok _ _ _ h
  obtain ⟨_, -, h⟩ := bind_eq_ok _ _ _ h
  obtain ⟨_, -, h⟩ := bind_eq_ok _ _ _ h
  cases h
  exact State.finish_mem ..

/-- No effect but that of a memory command changes memory (20_memory.md R61). -/
theorem effectOf_mem {i : Instr} {s t : State} (hi : isMemoryCommand i = false) (h : effectOf i s = .ok t) :
    t.mem = s.mem := by
  cases i
  case orB | orW | orL | andB | andW | andL => cases hi
  case rmov | flgget =>
    obtain ⟨_, -, h⟩ := bind_eq_ok _ _ _ h
    cases h
    exact State.finish_mem ..
  case radd | flgset =>
    obtain ⟨_, -, h⟩ := bind_eq_ok _ _ _ h
    obtain ⟨_, -, h⟩ := bind_eq_ok _ _ _ h
    cases h
    exact State.finish_mem ..
  case offs | offsHdr => exact offsetEffect_mem h
  case asrW | asrL | aslW | aslL | lsrW | lsrL | lslW | lslL | rorW | rorL | rolW | rolL => exact shiftEffect_mem h
  all_goals exact decBranchEffect_mem h

theorem exec_mem {i : Instr} {s t : State} (hi : isMemoryCommand i = false) (h : exec i s = .next t) : t.mem = s.mem := by
  rcases exec_next_cases h with ⟨-, rfl⟩ | ⟨-, c, -, rfl⟩ | ⟨-, he⟩
  · rfl
  · rfl
  · exact effectOf_mem hi he

/-- Settles O49: the two frames of `exec`. -/
theorem onlyMemoryCommandsWriteBuffers : Obligations.OnlyMemoryCommandsWriteBuffers :=
  fun _ _ _ h => ⟨fun hi => exec_mem hi h, exec_sameHostPart h⟩

end Sys2Proof.Proofs

/-! PROOFS. The family 30_encoding.md: the encoder and the decoder invert each other, what decoding accepts is the opcode
table, the checks in their order and the faults they raise, and the response of every command. -/

namespace Sys2Proof.Proofs

open Sys2Proof Sys2Proof.Machine Sys2Proof.Safety Sys2Proof.Laws

/-! ## The instruction of an opcode over its operands

`Opcode.build` with the operands already selected (R76) and the destination already read (R77). -/

/-- The instruction an opcode and a size field make of three operands, the counter that `RD` names and the destination. -/
def opcodeInstr (o : Opcode) (sz : BitVec 2) (a b c : Src) (counter : RegNum) (rd : Option RegNum) : Instr :=
  match o with
  | .rmov => .rmov a rd
  | .radd => .radd a b rd
  | .flgget => .flgget a.word rd
  | .flgset => .flgset a.word b
  | .db k => Instr.ofCond k counter a.word
  | .logic k => Instr.ofLogic k sz a b c.word rd
  | .offs => .offs a b c rd
  | .offsHdr => .offsHdr a b c rd
  | .shift k => Instr.ofShift k sz a b rd

@[simp] theorem word_select (fromRegister : Bool) (w : Word) : (Src.select fromRegister w).word = w := by
  cases fromRegister <;> rfl

@[simp] theorem isReg_select (fromRegister : Bool) (w : Word) : (Src.select fromRegister w).isReg = fromRegister := by
  cases fromRegister <;> rfl

/-- The destination that `WB` and `RD` name (R77). -/
def destinationOf (wb : Bool) (rd : RegNum) : Option RegNum := if wb then some rd else none

theorem build_eq (o : Opcode) (c : Control) (r : Record) :
    o.build c r = opcodeInstr o c.sz (Src.select c.s1 r.op1) (Src.select c.s2 r.op2) (Src.select c.s3 r.op3) c.rd
      (destinationOf c.wb c.rd) := by
  cases o <;> simp only [Opcode.build, opcodeInstr, destinationOf, word_select]

/-! ## Decoding what was encoded -/

/-- The fields of the control word that `encodeWith` writes. -/
def encodedControl (o : Opcode) (sz : BitVec 2) (a b c : Src) (rd : Option RegNum) : Control :=
  { op := o.toByte, sz := sz, s1 := a.isReg, s2 := b.isReg, s3 := c.isReg, wb := rd.isSome, rd := rd.getD 0, reserved := 0 }

theorem encodeWith_cw (o : Opcode) (sz : BitVec 2) (a b c : Src) (rd : Option RegNum) :
    (encodeWith o sz a b c rd).cw = (encodedControl o sz a b c rd).toWord := rfl

/-- `WB` and `RD` as the encoder writes them name the destination (R77). -/
theorem destinationOf_encoded (rd : Option RegNum) : destinationOf rd.isSome (rd.getD 0) = rd := by
  cases rd <;> rfl

/-- A record of `encodeWith` whose fields pass the checks decodes to its opcode over its operands. -/
theorem decode_encodeWith {o : Opcode} {sz : BitVec 2} {a b c : Src} {rd : Option RegNum} (hs : o.sizeOk sz = true)
    (hf : o.fieldsOk (encodedControl o sz a b c rd) = true) :
    decode (encodeWith o sz a b c rd) = .ok (opcodeInstr o sz a b c (rd.getD 0) rd) := by
  rw [decode_of_fields o (encodedControl o sz a b c rd) _ rfl rfl hs hf, build_eq]
  simp only [encodedControl, encodeWith, Src.select_isReg, destinationOf_encoded]

theorem decode_encodeDb (k : Cond) (counter : RegNum) (disp : Word) :
    decode (encodeDb k counter disp) = .ok (Instr.ofCond k counter disp) :=
  decode_of_fields (.db k) ⟨(Opcode.db k).toByte, 0, false, false, false, false, counter, 0⟩ _ rfl rfl rfl rfl

/-- The decoder inverts the encoder on records. -/
theorem decode_encode (i : Instr) : decode (encode i) = .ok i := by
  cases i
  case rmov | radd | flgget | flgset => exact decode_encodeWith rfl rfl
  case orB | orW | orL | andB | andW | andL => exact decode_encodeWith rfl rfl
  case offs | offsHdr => exact decode_encodeWith rfl rfl
  case asrW | asrL | aslW | aslL | lsrW | lsrL | lslW | lslL | rorW | rorL | rolW | rolL => exact decode_encodeWith rfl rfl
  all_goals exact decode_encodeDb ..

/-- A stored record that decodes is read from the front of its bytes. -/
theorem decodeBytes_toBytes {r : Record} {i : Instr} (h : decode r = .ok i) (rest : List Byte) :
    decodeBytes (r.toBytes ++ rest) = .ok (i, rest) := by
  simp only [decodeBytes, Record.ofBytes_toBytes, h]

/-- Settles O2: the bytes give the record back, and the record the instruction. -/
theorem decodeInvertsEncode : Obligations.DecodeInvertsEncode :=
  fun i rest => decodeBytes_toBytes (decode_encode i) rest

/-! ## Stored programs -/

theorem programBytes_cons (r : Record) (p : List Record) : programBytes (r :: p) = r.toBytes ++ programBytes p := rfl

/-- Settles O7, by induction on the program, one stored record at a time. -/
theorem storedProgramReadsBack : Obligations.StoredProgramReadsBack := by
  intro p rest
  induction p with
  | nil => rfl
  | cons r p ih =>
    rw [programBytes_cons, List.append_assoc, List.length_cons, programOfBytes, Record.ofBytes_toBytes]
    simp only [ih]

/-! ## Operand words that are not used -/

/-- How many operand words the format of an opcode uses (R78). -/
def operandCount : Opcode → Nat
  | .rmov | .flgget | .db _ => 1
  | .radd | .flgset | .shift _ => 2
  | .logic _ | .offs | .offsHdr => 3

/-- Building an instruction reads the operand words that its format uses. -/
theorem build_congr (o : Opcode) (c : Control) {r r' : Record} (h1 : r.op1 = r'.op1)
    (h2 : 2 ≤ operandCount o → r.op2 = r'.op2) (h3 : 3 ≤ operandCount o → r.op3 = r'.op3) : o.build c r = o.build c r' := by
  cases o with
  | rmov | flgget | db => simp only [Opcode.build, h1]
  | radd | flgset | shift => simp only [Opcode.build, h1, h2 (Nat.le_refl 2)]
  | logic | offs | offsHdr => simp only [Opcode.build, h1, h2 (Nat.le_succ 2), h3 (Nat.le_refl 3)]

theorem decode_of_unassigned {r : Record} (h : Opcode.ofByte (Control.ofWord r.cw).op = none) :
    decode r = .error .illegalOpcode := by
  simp only [decode, h]

/-- With an assigned opcode the size is checked, then the fields. -/
theorem decode_of_assigned {r : Record} {o : Opcode} (h : Opcode.ofByte (Control.ofWord r.cw).op = some o) :
    decode r =
      if !o.sizeOk (Control.ofWord r.cw).sz then .error .illegalSize
      else if !o.fieldsOk (Control.ofWord r.cw) then .error .illegalField
      else .ok (o.build (Control.ofWord r.cw) r) := by
  simp only [decode, h]

/-- Records with one control word decode alike if its opcode builds alike from them. -/
theorem decode_congr {r r' : Record} (hcw : r.cw = r'.cw)
    (h : ∀ o, Opcode.ofByte (Control.ofWord r.cw).op = some o →
      o.build (Control.ofWord r.cw) r = o.build (Control.ofWord r.cw) r') : decode r = decode r' := by
  cases ho : Opcode.ofByte (Control.ofWord r.cw).op with
  | none => rw [decode_of_unassigned ho, decode_of_unassigned (hcw ▸ ho)]
  | some o => rw [decode_of_assigned ho, decode_of_assigned (hcw ▸ ho), ← hcw, h o ho]

/-- The opcode byte is `CW[31:24]` (R75). -/
theorem control_op_toNat (w : Word) : (Control.ofWord w).op.toNat = w.toNat / 2 ^ 24 := by
  have hw := w.isLt
  simp only [Control.ofWord, BitVec.extractLsb'_toNat, Nat.shiftRight_eq_div_pow]
  omega

/-- Group 5, `rmov` and `flgget` use one operand word; group E, `radd` and `flgset` use two (R78, R80). -/
theorem operandCount_of_byte {b : BitVec 8} {o : Opcode} (ho : Opcode.ofByte b = some o) :
    (b.toNat / 16 = 5 ∨ b.toNat = 0x10 ∨ b.toNat = 0x14 → operandCount o = 1) ∧
    (b.toNat / 16 = 0xE ∨ b.toNat = 0x12 ∨ b.toNat = 0x15 → operandCount o = 2) := by
  have key : ∀ b : BitVec 8, ∀ o ∈ Opcode.ofByte b,
      (b.toNat / 16 = 5 ∨ b.toNat = 0x10 ∨ b.toNat = 0x14 → operandCount o = 1) ∧
      (b.toNat / 16 = 0xE ∨ b.toNat = 0x12 ∨ b.toNat = 0x15 → operandCount o = 2) := by decide
  exact key b o ho

/-- Settles O6: the opcode's format does not use those words. -/
theorem unusedOperandWordsIgnored : Obligations.UnusedOperandWordsIgnored := by
  intro cw op1 op2 op3 op2' op3'
  have hop := control_op_toNat cw
  refine ⟨fun hcw => decode_congr rfl fun o ho => ?_, fun hcw => decode_congr rfl fun o ho => ?_⟩
  · have hcount := (operandCount_of_byte ho).1 (by rw [hop]; omega)
    exact build_congr o _ rfl (fun h => by omega) (fun h => by omega)
  · have hcount := (operandCount_of_byte ho).2 (by rw [hop]; omega)
    exact build_congr o _ rfl (fun _ => rfl) (fun h => by omega)

/-! ## Records and lines of the spec -/

/-- Settles O1: each record is evaluated. -/
theorem specRecordsDecode : Obligations.SpecRecordsDecode := by
  refine ⟨?_, ?_, ?_, ?_, ?_, ?_, ?_, ?_⟩ <;> decide

/-- Settles O8: each line is read. -/
theorem assemblerReadsSpecLines : Obligations.AssemblerReadsSpecLines := by
  refine ⟨?_, ?_, ?_, ?_, ?_, ?_⟩ <;> decide

/-- Settles O9, by the rules of `resolve`. -/
theorem operandResolution : Obligations.OperandResolution := by
  intro s n
  refine ⟨resolve_imm s n, fun r hn => ?_, resolve_reg_of_ge s n⟩
  rw [resolve_reg_of_lt s n (hn ▸ r.isLt)]
  simp only [hn, State.reg]

/-! ## What an instruction has from its opcode -/

/-- The mnemonic of an opcode with a size field. -/
def rowMnemonic (o : Opcode) (sz : BitVec 2) : String :=
  (opcodeInstr o sz (.imm 0) (.imm 0) (.imm 0) 0 none).mnemonic

/-- Check 4 of R82 on the names an opcode reads in its operands and in `RD`. -/
def opcodeNamesOk (o : Opcode) (a b c : Src) (counter : RegNum) : Bool :=
  match o with
  | .rmov => a.wellFormed
  | .radd | .logic _ | .shift _ => a.wellFormed && b.wellFormed
  | .flgget => flagNumberWellFormed a.word
  | .flgset => flagNumberWellFormed a.word && b.wellFormed
  | .db _ => counterWellFormed counter
  | .offs | .offsHdr => a.wellFormed && b.wellFormed && c.wellFormed

/-- The opcodes of format M (R78). -/
def isLogicOpcode : Opcode → Bool
  | .logic _ => true
  | _ => false

/-- The buffer number of a memory command. -/
def bufferNumber : Instr → Option Word
  | .orB _ _ b _ | .orW _ _ b _ | .orL _ _ b _ | .andB _ _ b _ | .andW _ _ b _ | .andL _ _ b _ => some b
  | _ => none

theorem size_cases (sz : BitVec 2) : sz = 0 ∨ sz = 1 ∨ sz = 2 ∨ sz = 3 := by decide +revert

/-- The mnemonic, the names to check and the buffer number of an instruction that an opcode makes. -/
theorem opcodeInstr_properties (o : Opcode) (sz : BitVec 2) (a b c : Src) (counter : RegNum) (rd : Option RegNum) :
    (opcodeInstr o sz a b c counter rd).mnemonic = rowMnemonic o sz ∧
    (opcodeInstr o sz a b c counter rd).wellFormed = opcodeNamesOk o a b c counter ∧
    bufferNumber (opcodeInstr o sz a b c counter rd) = if isLogicOpcode o then some c.word else none := by
  cases o with
  | rmov | radd | flgget | flgset | offs | offsHdr => exact ⟨rfl, rfl, rfl⟩
  | db k => cases k <;> exact ⟨rfl, rfl, rfl⟩
  | logic k => rcases size_cases sz with rfl | rfl | rfl | rfl <;> cases k <;> exact ⟨rfl, rfl, rfl⟩
  | shift k => rcases size_cases sz with rfl | rfl | rfl | rfl <;> cases k <;> exact ⟨rfl, rfl, rfl⟩

/-- The same of the instruction built from a record. -/
theorem build_properties (o : Opcode) (c : Control) (r : Record) :
    (o.build c r).mnemonic = rowMnemonic o c.sz ∧
    (o.build c r).wellFormed =
      opcodeNamesOk o (Src.select c.s1 r.op1) (Src.select c.s2 r.op2) (Src.select c.s3 r.op3) c.rd ∧
    bufferNumber (o.build c r) = if isLogicOpcode o then some r.op3 else none := by
  obtain ⟨hmnemonic, hnames, hbuffer⟩ := opcodeInstr_properties o c.sz (Src.select c.s1 r.op1) (Src.select c.s2 r.op2)
    (Src.select c.s3 r.op3) c.rd (destinationOf c.wb c.rd)
  rw [word_select] at hbuffer
  rw [build_eq]
  exact ⟨hmnemonic, hnames, hbuffer⟩

/-! ## The row of an opcode and a size field

Every row of the table is that of one assigned opcode and one of its sizes, and it matches the control words that pass
the three checks with them. -/

/-- The mask of an opcode's format: the select bits and `WB` that R78 says are 0. -/
def opcodeMask : Opcode → Word
  | .rmov => rowMask false true true false
  | .radd | .logic _ | .shift _ => rowMask false false true false
  | .flgget => rowMask true true true false
  | .flgset => rowMask true false true true
  | .db _ => rowMask true true true true
  | .offs | .offsHdr => rowMask false false false false

def opcodeRow (o : Opcode) (sz : BitVec 2) : String × Word × Word :=
  (rowMnemonic o sz, Control.toWord ⟨o.toByte, sz, false, false, false, false, 0, 0⟩, opcodeMask o)

theorem opcodeRow_mem {o : Opcode} {sz : BitVec 2} (h : o.sizeOk sz = true) : opcodeRow o sz ∈ opcodeRows := by
  cases o with
  | rmov | radd | flgget | flgset | offs | offsHdr => decide +revert
  | db k => cases k <;> decide +revert
  | logic k => cases k <;> decide +revert
  | shift k => cases k <;> decide +revert

/-- The rows of the table are those of the assigned opcodes with their sizes. -/
theorem mem_opcodeRows_iff (row : String × Word × Word) :
    row ∈ opcodeRows ↔ ∃ o sz, o.sizeOk sz = true ∧ opcodeRow o sz = row := by
  constructor
  · have key : ∀ row ∈ opcodeRows, ∃ o ∈ Opcode.ofByte (Control.ofWord row.2.1).op,
        o.sizeOk (Control.ofWord row.2.1).sz = true ∧ opcodeRow o (Control.ofWord row.2.1).sz = row := by decide
    intro hrow
    obtain ⟨o, -, hs, heq⟩ := key row hrow
    exact ⟨o, _, hs, heq⟩
  · rintro ⟨o, sz, hs, rfl⟩
    exact opcodeRow_mem hs

/-! ## What a row matches -/

theorem ofWord_injective {w w' : Word} (h : Control.ofWord w = Control.ofWord w') : w = w' := by
  rw [← Control.toWord_ofWord w, h, Control.toWord_ofWord]

/-- The fields of a control word under a row's mask. -/
theorem ofWord_and_rowMask (w : Word) (s1 s2 s3 wb : Bool) :
    Control.ofWord (w &&& rowMask s1 s2 s3 wb) =
      { op := (Control.ofWord w).op, sz := (Control.ofWord w).sz, s1 := (Control.ofWord w).s1 && s1
        s2 := (Control.ofWord w).s2 && s2, s3 := (Control.ofWord w).s3 && s3, wb := (Control.ofWord w).wb && wb, rd := 0
        reserved := (Control.ofWord w).reserved } := by
  have hmask : Control.ofWord (rowMask s1 s2 s3 wb) = ⟨0xFF, 3, s1, s2, s3, wb, 0, 0x3FFF⟩ := Control.ofWord_toWord _
  simp only [Control.ofWord, Control.mk.injEq, BitVec.extractLsb'_and, BitVec.getLsbD_and] at hmask ⊢
  obtain ⟨hop, hsz, h1, h2, h3, hwb, hrd, hreserved⟩ := hmask
  rw [hop, hsz, h1, h2, h3, hwb, hreserved]
  have hrd0 : (rowMask s1 s2 s3 wb).extractLsb' 14 4 = 0#4 := BitVec.eq_of_toNat_eq (congrArg Fin.val hrd)
  refine ⟨BitVec.and_allOnes, BitVec.and_allOnes, rfl, rfl, rfl, rfl, Fin.ext ?_, BitVec.and_allOnes⟩
  simp only [hrd0, BitVec.and_zero, BitVec.toNat_ofNat]
  rfl

/-- When a word is the row's match under its mask. -/
theorem and_rowMask_eq_iff (w : Word) (op : BitVec 8) (sz : BitVec 2) (s1 s2 s3 wb : Bool) :
    w &&& rowMask s1 s2 s3 wb = Control.toWord ⟨op, sz, false, false, false, false, 0, 0⟩ ↔
      (Control.ofWord w).op = op ∧ (Control.ofWord w).sz = sz ∧ ((Control.ofWord w).s1 && s1) = false ∧
      ((Control.ofWord w).s2 && s2) = false ∧ ((Control.ofWord w).s3 && s3) = false ∧
      ((Control.ofWord w).wb && wb) = false ∧ (Control.ofWord w).reserved = 0 := by
  rw [← (Function.Injective.eq_iff fun _ _ => ofWord_injective), ofWord_and_rowMask, Control.ofWord_toWord, Control.mk.injEq]
  simp only [true_and]

/-- A control word matches the row of an opcode and a size exactly when it has them and passes check 3: the mask of each
format keeps the bits that R78 says are 0. -/
theorem matches_opcodeRow_iff (w : Word) (o : Opcode) (sz : BitVec 2) :
    w &&& (opcodeRow o sz).2.2 = (opcodeRow o sz).2.1 ↔
      (Control.ofWord w).op = o.toByte ∧ (Control.ofWord w).sz = sz ∧ o.fieldsOk (Control.ofWord w) = true := by
  cases o <;> simp only [opcodeRow, opcodeMask, and_rowMask_eq_iff, Opcode.fieldsOk, Bool.and_true, Bool.and_false,
    Bool.and_eq_true, Bool.not_eq_true', beq_iff_eq] <;> tauto

/-! ## What decoding accepts -/

theorem decode_eq_ok_iff {r : Record} {i : Instr} :
    decode r = .ok i ↔
      ∃ o : Opcode, (Control.ofWord r.cw).op = o.toByte ∧ o.sizeOk (Control.ofWord r.cw).sz = true ∧
        o.fieldsOk (Control.ofWord r.cw) = true ∧ o.build (Control.ofWord r.cw) r = i := by
  constructor
  · intro h
    rcases decode_cases r with ⟨-, hd⟩ | ⟨o, ho, ⟨-, hd⟩ | ⟨-, -, hd⟩ | ⟨hs, hf, hd⟩⟩ <;> rw [hd] at h
    · cases h
    · cases h
    · cases h
    · exact ⟨o, (Opcode.toByte_ofByte _ o ho).symm, hs, hf, Except.ok.inj h⟩
  · rintro ⟨o, hop, hs, hf, rfl⟩
    exact decode_of_fields o _ r (Control.toWord_ofWord r.cw).symm hop hs hf

theorem toByte_injective {o o' : Opcode} (h : o.toByte = o'.toByte) : o = o' := by
  have hsome := Opcode.ofByte_toByte o
  rw [h, Opcode.ofByte_toByte] at hsome
  exact (Option.some.inj hsome).symm

theorem build_mnemonic (o : Opcode) (c : Control) (r : Record) : (o.build c r).mnemonic = rowMnemonic o c.sz :=
  (build_properties o c r).1

/-- No control word matches two rows: the match fixes opcode and size. -/
theorem matching_row_unique {cw : Word} {row row' : String × Word × Word} (hrow : row ∈ opcodeRows)
    (hrow' : row' ∈ opcodeRows) (h : cw &&& row.2.2 = row.2.1) (h' : cw &&& row'.2.2 = row'.2.1) : row = row' := by
  obtain ⟨o, sz, -, rfl⟩ := (mem_opcodeRows_iff row).mp hrow
  obtain ⟨o', sz', -, rfl⟩ := (mem_opcodeRows_iff row').mp hrow'
  obtain ⟨hop, hsz, -⟩ := (matches_opcodeRow_iff cw o sz).mp h
  obtain ⟨hop', hsz', -⟩ := (matches_opcodeRow_iff cw o' sz').mp h'
  rw [toByte_injective (hop.symm.trans hop'), hsz.symm.trans hsz']

/-- Settles O3: a record that decodes matches the row of its opcode and size, and the other way round. -/
theorem decodeAcceptsExactlyTheTable : Obligations.DecodeAcceptsExactlyTheTable := by
  refine ⟨fun r m => ⟨?_, ?_⟩, fun cw row hrow row' hrow' => matching_row_unique hrow hrow'⟩
  · rintro ⟨i, hi, rfl⟩
    obtain ⟨o, hop, hs, hf, rfl⟩ := decode_eq_ok_iff.mp hi
    exact ⟨_, opcodeRow_mem hs, (build_mnemonic o _ r).symm, (matches_opcodeRow_iff r.cw o _).mpr ⟨hop, rfl, hf⟩⟩
  · rintro ⟨row, hrow, rfl, hmatch⟩
    obtain ⟨o, sz, hs, rfl⟩ := (mem_opcodeRows_iff row).mp hrow
    obtain ⟨hop, rfl, hf⟩ := (matches_opcodeRow_iff r.cw o sz).mp hmatch
    exact ⟨_, decode_eq_ok_iff.mpr ⟨o, hop, hs, hf, rfl⟩, build_mnemonic o _ r⟩

/-! ## Which check fails first, from the raw control word -/

theorem opcodeByte_eq (r : Record) : opcodeByte r = (Control.ofWord r.cw).op.toNat := (control_op_toNat r.cw).symm

/-- `CW[31:22]` is the opcode byte and the size field (R75). -/
theorem opcodeAndSize_eq (w : Word) :
    opcodeAndSize w = 4 * (Control.ofWord w).op.toNat + (Control.ofWord w).sz.toNat := by
  have hw := w.isLt
  simp only [opcodeAndSize, Control.ofWord, BitVec.extractLsb'_toNat, Nat.shiftRight_eq_div_pow]
  omega

theorem opcodeAndSize_eq_iff (w w' : Word) :
    opcodeAndSize w = opcodeAndSize w' ↔
      (Control.ofWord w).op = (Control.ofWord w').op ∧ (Control.ofWord w).sz = (Control.ofWord w').sz := by
  rw [opcodeAndSize_eq, opcodeAndSize_eq, ← BitVec.toNat_inj, ← BitVec.toNat_inj]
  omega

/-- The thirty numbers of R80 are the bytes the opcode map assigns. -/
theorem opcodeByte_mem_iff (r : Record) :
    opcodeByte r ∈ assignedOpcodes ↔ (Opcode.ofByte (Control.ofWord r.cw).op).isSome = true := by
  have key : ∀ b : BitVec 8, b.toNat ∈ assignedOpcodes ↔ (Opcode.ofByte b).isSome = true := by decide
  rw [opcodeByte_eq]
  exact key _

theorem sizeListed_iff (r : Record) :
    sizeListed r = true ↔ ∃ o : Opcode, (Control.ofWord r.cw).op = o.toByte ∧ o.sizeOk (Control.ofWord r.cw).sz = true := by
  simp only [sizeListed, List.any_eq_true, beq_iff_eq]
  constructor
  · rintro ⟨row, hrow, heq⟩
    obtain ⟨o, sz, hs, rfl⟩ := (mem_opcodeRows_iff row).mp hrow
    rw [opcodeAndSize_eq_iff, opcodeRow, Control.ofWord_toWord] at heq
    obtain ⟨hop, hsz⟩ := heq
    exact ⟨o, hop.symm, hsz ▸ hs⟩
  · rintro ⟨o, hop, hs⟩
    refine ⟨_, opcodeRow_mem hs, ?_⟩
    rw [opcodeAndSize_eq_iff, opcodeRow, Control.ofWord_toWord]
    exact ⟨hop.symm, rfl⟩

theorem rowMatches_iff (r : Record) :
    rowMatches r = true ↔ ∃ o : Opcode, (Control.ofWord r.cw).op = o.toByte ∧ o.sizeOk (Control.ofWord r.cw).sz = true ∧
      o.fieldsOk (Control.ofWord r.cw) = true := by
  simp only [rowMatches, List.any_eq_true, beq_iff_eq]
  constructor
  · rintro ⟨row, hrow, hmatch⟩
    obtain ⟨o, sz, hs, rfl⟩ := (mem_opcodeRows_iff row).mp hrow
    obtain ⟨hop, rfl, hf⟩ := (matches_opcodeRow_iff r.cw o sz).mp hmatch
    exact ⟨o, hop, hs, hf⟩
  · rintro ⟨o, hop, hs, hf⟩
    exact ⟨_, opcodeRow_mem hs, (matches_opcodeRow_iff r.cw o _).mpr ⟨hop, rfl, hf⟩⟩

/-- The four ways decoding can go, seen in the raw control word. -/
theorem decode_verdict (r : Record) :
    (decode r = .error .illegalOpcode ∧ opcodeByte r ∉ assignedOpcodes ∧ sizeListed r = false) ∨
    (decode r = .error .illegalSize ∧ opcodeByte r ∈ assignedOpcodes ∧ sizeListed r = false) ∨
    (decode r = .error .illegalField ∧ opcodeByte r ∈ assignedOpcodes ∧ sizeListed r = true ∧ rowMatches r = false) ∨
    (∃ i, decode r = .ok i ∧ opcodeByte r ∈ assignedOpcodes ∧ sizeListed r = true ∧ rowMatches r = true) := by
  rw [opcodeByte_mem_iff, ← Bool.not_eq_true, ← Bool.not_eq_true, sizeListed_iff, rowMatches_iff]
  rcases decode_cases r with ⟨hnone, hd⟩ | ⟨o, ho, hchecks⟩
  · refine .inl ⟨hd, by simp [hnone], ?_⟩
    rintro ⟨o, hop, -⟩
    rw [hop, Opcode.ofByte_toByte] at hnone
    cases hnone
  · have hop := (Opcode.toByte_ofByte _ o ho).symm
    have hassigned : (Opcode.ofByte (Control.ofWord r.cw).op).isSome = true := by rw [ho]; rfl
    have honly {o' : Opcode} (h : (Control.ofWord r.cw).op = o'.toByte) : o' = o := toByte_injective (h.symm.trans hop)
    rcases hchecks with ⟨hs, hd⟩ | ⟨hs, hf, hd⟩ | ⟨hs, hf, hd⟩
    · refine .inr (.inl ⟨hd, hassigned, ?_⟩)
      rintro ⟨o', hop', hs'⟩
      rw [honly hop', hs] at hs'
      cases hs'
    · refine .inr (.inr (.inl ⟨hd, hassigned, ⟨o, hop, hs⟩, ?_⟩))
      rintro ⟨o', hop', -, hf'⟩
      rw [honly hop', hf] at hf'
      cases hf'
    · exact .inr (.inr (.inr ⟨_, hd, hassigned, ⟨o, hop, hs⟩, o, hop, hs, hf⟩))

/-- Settles O4: in each of the four ways one clause is true on both sides and the others on neither. -/
theorem decodeChecksInOrder : Obligations.DecodeChecksInOrder := by
  intro r
  rcases decode_verdict r with ⟨hd, ha, hl⟩ | ⟨hd, ha, hl⟩ | ⟨hd, ha, hl, hm⟩ | ⟨i, hd, ha, hl, hm⟩
  · simp [hd, ha, hl]
  · simp [hd, ha, hl]
  · simp [hd, ha, hl, hm]
  · simp [hd, ha, hl, hm]

/-! ## Encoding a decoded record again -/

theorem encode_ofCond (k : Cond) (counter : RegNum) (disp : Word) :
    encode (Instr.ofCond k counter disp) = encodeDb k counter disp := by
  cases k <;> rfl

theorem encode_ofLogic {k : LogicKind} {sz : BitVec 2} (h : (Opcode.logic k).sizeOk sz = true) (a b : Src) (w : Word)
    (rd : Option RegNum) : encode (Instr.ofLogic k sz a b w rd) = encodeWith (.logic k) sz a b (.imm w) rd := by
  rcases size_cases sz with rfl | rfl | rfl | rfl
  case inr.inr.inr => cases h
  all_goals cases k <;> rfl

theorem encode_ofShift {k : ShiftKind} {sz : BitVec 2} (h : (Opcode.shift k).sizeOk sz = true) (a b : Src)
    (rd : Option RegNum) : encode (Instr.ofShift k sz a b rd) = encodeWith (.shift k) sz a b (.imm 0) rd := by
  rcases size_cases sz with rfl | rfl | rfl | rfl
  case inl | inr.inr.inr => cases h
  all_goals cases k <;> rfl

/-- The `RD` field where it names a counter or a destination, and 0 where it is ignored (R77). -/
def meaningfulRd (o : Opcode) (c : Control) : RegNum :=
  match o with
  | .db _ => c.rd
  | _ => if c.wb then c.rd else 0

/-- The control word that `encodeWith` writes for selected operands (R76) and a destination that `WB` and `RD` name. -/
theorem encodeWith_select_cw (o : Opcode) (sz : BitVec 2) (s1 s2 s3 : Bool) (w1 w2 w3 : Word) (wb : Bool) (rd : RegNum) :
    (encodeWith o sz (Src.select s1 w1) (Src.select s2 w2) (Src.select s3 w3) (destinationOf wb rd)).cw =
      Control.toWord ⟨o.toByte, sz, s1, s2, s3, wb, if wb then rd else 0, 0⟩ := by
  rw [encodeWith_cw, encodedControl, isReg_select, isReg_select, isReg_select]
  cases wb <;> rfl

/-- The control word of a built instruction has the fields it was built from, an ignored `RD` apart. -/
theorem encode_build_cw {o : Opcode} {c : Control} (r : Record) (hop : c.op = o.toByte) (hs : o.sizeOk c.sz = true)
    (hf : o.fieldsOk c = true) : (encode (o.build c r)).cw = Control.toWord { c with rd := meaningfulRd o c } := by
  obtain ⟨op, sz, s1, s2, s3, wb, rd, reserved⟩ := c
  obtain rfl : op = o.toByte := hop
  cases o <;> simp only [Opcode.fieldsOk, Bool.and_eq_true, Bool.not_eq_true', beq_iff_eq, and_true] at hf
  case rmov =>
    obtain rfl := eq_of_beq hs
    obtain ⟨rfl, rfl, rfl⟩ := hf
    exact encodeWith_select_cw .rmov 0 s1 false false r.op1 0 0 wb rd
  case radd =>
    obtain rfl := eq_of_beq hs
    obtain ⟨rfl, rfl⟩ := hf
    exact encodeWith_select_cw .radd 0 s1 s2 false r.op1 r.op2 0 wb rd
  case flgget =>
    obtain rfl := eq_of_beq hs
    obtain ⟨rfl, ⟨rfl, rfl⟩, rfl⟩ := hf
    exact encodeWith_select_cw .flgget 0 false false false r.op1 0 0 wb rd
  case flgset =>
    obtain rfl := eq_of_beq hs
    obtain ⟨rfl, ⟨rfl, rfl⟩, rfl⟩ := hf
    exact encodeWith_select_cw .flgset 0 false s2 false r.op1 r.op2 0 false rd
  case db k =>
    obtain rfl := eq_of_beq hs
    obtain ⟨rfl, ⟨⟨rfl, rfl⟩, rfl⟩, rfl⟩ := hf
    exact congrArg Record.cw (encode_ofCond k rd r.op1)
  case logic k =>
    obtain ⟨rfl, rfl⟩ := hf
    exact (congrArg Record.cw (encode_ofLogic hs _ _ r.op3 _)).trans
      (encodeWith_select_cw (.logic k) sz s1 s2 false r.op1 r.op2 r.op3 wb rd)
  case offs =>
    obtain rfl := eq_of_beq hs
    obtain rfl := hf
    exact encodeWith_select_cw .offs 0 s1 s2 s3 r.op1 r.op2 r.op3 wb rd
  case offsHdr =>
    obtain rfl := eq_of_beq hs
    obtain rfl := hf
    exact encodeWith_select_cw .offsHdr 0 s1 s2 s3 r.op1 r.op2 r.op3 wb rd
  case shift k =>
    obtain ⟨rfl, rfl⟩ := hf
    exact (congrArg Record.cw (encode_ofShift hs _ _ _)).trans
      (encodeWith_select_cw (.shift k) sz s1 s2 false r.op1 r.op2 0 wb rd)

/-- The bits above `RD` do not depend on it. -/
theorem toWord_withRd_high (c : Control) (rd : RegNum) :
    (Control.toWord { c with rd := rd }).extractLsb' 18 14 = c.toWord.extractLsb' 18 14 := by
  apply BitVec.eq_of_getLsbD_eq
  intro i hi
  rw [BitVec.getLsbD_extractLsb', BitVec.getLsbD_extractLsb', Control.toWord_getLsbD _ _ (by omega),
    Control.toWord_getLsbD _ _ (by omega)]
  simp only [show ¬ 18 + i < 14 by omega, show ¬ 18 + i < 18 by omega, if_false]

/-- An `RD` that has a meaning is kept: `WB` = 1 names a destination, group 5 a counter (R77, R78). -/
theorem meaningfulRd_eq {o : Opcode} {c : Control} (h : c.wb = true ∨ o.toByte.toNat / 16 = 5) :
    meaningfulRd o c = c.rd := by
  cases o with
  | db k => rfl
  | logic k => cases k <;> exact if_pos (h.resolve_right (by decide))
  | shift k => cases k <;> exact if_pos (h.resolve_right (by decide))
  | rmov | radd | flgget | flgset | offs | offsHdr => exact if_pos (h.resolve_right (by decide))

/-- Settles O5: encoding keeps every field of a legal control word, an `RD` without a meaning apart. -/
theorem encodeKeepsControlBits : Obligations.EncodeKeepsControlBits := by
  intro r i hi
  obtain ⟨o, hop, hs, hf, rfl⟩ := decode_eq_ok_iff.mp hi
  rw [encode_build_cw r hop hs hf]
  refine ⟨?_, fun hrd => ?_⟩
  · rw [toWord_withRd_high, Control.toWord_ofWord]
  · have hkeep : meaningfulRd o (Control.ofWord r.cw) = (Control.ofWord r.cw).rd := by
      rw [opcodeByte_eq, hop] at hrd
      exact meaningfulRd_eq hrd
    rw [hkeep, Control.toWord_ofWord]

/-! ## The cause of an effect

An effect is a sequence of checks before a state, so its cause is that of the first check that fails. -/

def causeOf {α : Type} : Except Cause α → Option Cause
  | .error c => some c
  | .ok _ => none

theorem causeOf_eq_some {α : Type} {e : Except Cause α} {c : Cause} (h : causeOf e = some c) : e = .error c := by
  cases e with
  | error c' => rw [Option.some.inj h]
  | ok a => cases h

theorem causeOf_eq_none {α : Type} {e : Except Cause α} (h : causeOf e = none) : ∃ a, e = .ok a := by
  cases e with
  | error c => cases h
  | ok a => exact ⟨a, rfl⟩

/-- A check, and then checks whose cause does not depend on what it read. -/
theorem causeOf_bind {α β : Type} {e : Except Cause α} {f : α → Except Cause β} {v w : Option Cause} (he : causeOf e = v)
    (hf : ∀ a, causeOf (f a) = w) : causeOf (e >>= f) = v.or w := by
  subst he
  cases e with
  | error c => rfl
  | ok a => exact hf a

/-- A last check, and then a state. -/
theorem causeOf_bind_ok {α β : Type} {e : Except Cause α} {v : Option Cause} (he : causeOf e = v) (g : α → β) :
    causeOf (e >>= fun a => .ok (g a)) = v :=
  (causeOf_bind (w := none) he fun _ => rfl).trans Option.or_none

/-- Check 4 of R82 on one name, or on several. -/
def nameCheck (ok : Bool) : Option Cause := if ok then none else some .badRegister

theorem nameCheck_and (a b : Bool) : nameCheck (a && b) = (nameCheck a).or (nameCheck b) := by
  cases a <;> rfl

theorem causeOf_resolve (s : State) (a : Src) : causeOf (resolve s a) = nameCheck a.wellFormed := by
  cases h : a.wellFormed with
  | false => rw [resolve_not_wellFormed s a h]; rfl
  | true => obtain ⟨v, hv⟩ := resolve_wellFormed s a h; rw [hv]; rfl

theorem causeOf_resolveFlag (k : Word) : causeOf (resolveFlag k) = nameCheck (flagNumberWellFormed k) := by
  cases h : flagNumberWellFormed k with
  | false => rw [resolveFlag_not_wellFormed k h]; rfl
  | true => obtain ⟨f, hf⟩ := resolveFlag_wellFormed k h; rw [hf]; rfl

theorem causeOf_resolveCounter (d : RegNum) : causeOf (resolveCounter d) = nameCheck (counterWellFormed d) := by
  cases h : counterWellFormed d with
  | false => rw [resolveCounter_not_wellFormed d h]; rfl
  | true => rw [resolveCounter_wellFormed d h]; rfl

/-- Check 5 of R82 on a buffer number. -/
def bufferCheck (nbuf : Nat) (number : Word) : Option Cause := if nbuf ≤ number.toNat then some .badBuffer else none

theorem causeOf_resolveBuffer (s : State) (number : Word) :
    causeOf (resolveBuffer s number) = bufferCheck s.mem.buffers.length number := by
  unfold bufferCheck
  split
  · next h => rw [resolveBuffer_of_none s number (List.getElem?_eq_none h)]; rfl
  · next h =>
    rw [resolveBuffer_of_some s number _ (List.getElem?_eq_getElem (Nat.not_le.mp h))]; rfl

/-! ## The check an instruction fails -/

/-- The first of checks 4 and 5 of R82 that an instruction fails. -/
def failedCheck (nbuf : Nat) (i : Instr) : Option Cause :=
  (nameCheck i.wellFormed).or ((bufferNumber i).bind (bufferCheck nbuf))

theorem failedCheck_of_noBuffer {nbuf : Nat} {i : Instr} (h : bufferNumber i = none) :
    failedCheck nbuf i = nameCheck i.wellFormed := by
  rw [failedCheck, h]
  exact Option.or_none

theorem shiftEffect_cause (width : Nat) (k : ShiftKind) (value count : Src) (rd : Option RegNum) (s : State) :
    causeOf (shiftEffect width k value count rd s) = nameCheck (value.wellFormed && count.wellFormed) := by
  rw [nameCheck_and]
  exact causeOf_bind (causeOf_resolve s value) fun _ => causeOf_bind_ok (causeOf_resolve s count) _

theorem logicEffect_cause (k : LogicKind) (n : Nat) (offset value : Src) (b : Word) (rd : Option RegNum) (s : State) :
    causeOf (logicEffect k n offset value b rd s) =
      (nameCheck (offset.wellFormed && value.wellFormed)).or (bufferCheck s.mem.buffers.length b) := by
  rw [nameCheck_and, Option.or_assoc]
  exact causeOf_bind (causeOf_resolve s offset) fun _ => causeOf_bind (causeOf_resolve s value) fun _ =>
    causeOf_bind_ok (causeOf_resolveBuffer s b) _

theorem decBranchEffect_cause (k : Cond) (d : RegNum) (s : State) :
    causeOf (decBranchEffect k d s) = nameCheck (counterWellFormed d) :=
  causeOf_bind_ok (causeOf_resolveCounter d) _

theorem offsetEffect_cause (header : Int) (stride x y : Src) (rd : Option RegNum) (s : State) :
    causeOf (offsetEffect header stride x y rd s) =
      nameCheck (stride.wellFormed && x.wellFormed && y.wellFormed) := by
  rw [nameCheck_and, nameCheck_and, Option.or_assoc]
  exact causeOf_bind (causeOf_resolve s stride) fun _ => causeOf_bind (causeOf_resolve s x) fun _ =>
    causeOf_bind_ok (causeOf_resolve s y) _

/-- The cause of an instruction's effect is the first check it fails; of the state it reads `NBUF` alone. -/
theorem effectOf_cause (i : Instr) (s : State) : causeOf (effectOf i s) = failedCheck s.mem.buffers.length i := by
  cases i
  case orB | orW | orL | andB | andW | andL => exact logicEffect_cause ..
  all_goals rw [failedCheck_of_noBuffer rfl]
  case rmov src rd => exact causeOf_bind_ok (causeOf_resolve s src) _
  case radd a b rd =>
    exact (causeOf_bind (causeOf_resolve s a) fun _ => causeOf_bind_ok (causeOf_resolve s b) _).trans
      (nameCheck_and ..).symm
  case flgget flag rd => exact causeOf_bind_ok (causeOf_resolveFlag flag) _
  case flgset flag src =>
    exact (causeOf_bind (causeOf_resolveFlag flag) fun _ => causeOf_bind_ok (causeOf_resolve s src) _).trans
      (nameCheck_and ..).symm
  case offs | offsHdr => exact offsetEffect_cause ..
  case asrW | asrL | aslW | aslL | lsrW | lsrL | lslW | lslL | rorW | rorL | rolW | rolL => exact shiftEffect_cause ..
  all_goals exact decBranchEffect_cause ..

/-- `raise` is the fault of R232, with the cause's code (60_exceptions.md R233). -/
theorem raise_eq_faultedWith (s : State) (c : Cause) : s.raise c = faultedWith s (causeCode c) := rfl

theorem exec_of_failedCheck {i : Instr} {s : State} {c : Cause} (hf : s.fault = false)
    (h : failedCheck s.mem.buffers.length i = some c) : exec i s = .next (faultedWith s (causeCode c)) := by
  rw [← raise_eq_faultedWith]
  exact exec_of_error hf (causeOf_eq_some ((effectOf_cause i s).trans h))

/-- Settles O35: check 4 comes before check 5 and before any effect. -/
theorem missingNamesRaiseBadRegister : Obligations.MissingNamesRaiseBadRegister := by
  intro i s hf hwf
  exact exec_of_failedCheck (c := .badRegister) hf (by rw [failedCheck, hwf]; rfl)

/-! ## The checks on the raw record -/

theorem select_wellFormed (fromRegister : Bool) (w : Word) :
    (Src.select fromRegister w).wellFormed = !(fromRegister && decide (15 < w.toNat)) := by
  cases fromRegister
  · rfl
  · rw [Bool.eq_iff_iff]
    simp [Src.select, Src.wellFormed]

theorem flagNumberWellFormed_eq (k : Word) : flagNumberWellFormed k = !decide (4 < k.toNat) := by
  rw [Bool.eq_iff_iff]
  simp [flagNumberWellFormed]

/-- The counter is a data register exactly when the top bit of `RD` is 0. -/
theorem counterWellFormed_rd (w : Word) : counterWellFormed (Control.ofWord w).rd = !w.getLsbD 17 := by
  have hrd : (Control.ofWord w).rd.val = w.toNat / 2 ^ 14 % 16 := by
    simp [Control.ofWord, BitVec.extractLsb'_toNat, Nat.shiftRight_eq_div_pow]
  rw [Bool.eq_iff_iff]
  simp only [counterWellFormed, hrd, ← BitVec.testBit_toNat, Nat.testBit_eq_decide_div_mod_eq, decide_eq_true_eq,
    Bool.not_eq_true', decide_eq_false_iff_not]
  omega

/-- The opcodes of group 5 (R80). -/
def isDbOpcode : Opcode → Bool
  | .db _ => true
  | _ => false

/-- The opcodes whose first operand word is a flag number (R81). -/
def namesFlag : Opcode → Bool
  | .flgget | .flgset => true
  | _ => false

/-- The three classes in the opcode byte (R80). -/
theorem toByte_classes (o : Opcode) :
    decide (o.toByte.toNat / 16 = 5) = isDbOpcode o ∧
    decide (o.toByte.toNat = 0x14 ∨ o.toByte.toNat = 0x15) = namesFlag o ∧
    decide (o.toByte.toNat = 0x80 ∨ o.toByte.toNat = 0xC0) = isLogicOpcode o := by
  cases o with
  | rmov | radd | flgget | flgset | offs | offsHdr => decide
  | db k => cases k <;> decide
  | logic k => cases k <;> decide
  | shift k => cases k <;> decide

/-- Check 4 on the raw record, with its fields and its opcode. -/
theorem namesMissing_eq {o : Opcode} {r : Record} (hop : (Control.ofWord r.cw).op = o.toByte) :
    namesMissing r =
      ((Control.ofWord r.cw).s1 && decide (15 < r.op1.toNat) || (Control.ofWord r.cw).s2 && decide (15 < r.op2.toNat) ||
        (Control.ofWord r.cw).s3 && decide (15 < r.op3.toNat) || isDbOpcode o && r.cw.getLsbD 17 ||
        namesFlag o && decide (4 < r.op1.toNat)) := by
  obtain ⟨hdb, hflag, -⟩ := toByte_classes o
  rw [namesMissing, opcodeByte_eq, hop, hdb, hflag]
  rfl

/-- Check 4 on the built instruction is check 4 on the raw record: check 3 has put at 0 the select bits of the operands
that the opcode's format does not read. -/
theorem build_wellFormed {o : Opcode} {r : Record} (hop : (Control.ofWord r.cw).op = o.toByte)
    (hf : o.fieldsOk (Control.ofWord r.cw) = true) : (o.build (Control.ofWord r.cw) r).wellFormed = !namesMissing r := by
  obtain ⟨-, hnames, -⟩ := build_properties o (Control.ofWord r.cw) r
  rw [hnames, namesMissing_eq hop]
  cases o <;> simp only [Opcode.fieldsOk, Bool.and_eq_true, Bool.not_eq_true', beq_iff_eq] at hf <;>
    simp [opcodeNamesOk, isDbOpcode, namesFlag, select_wellFormed, counterWellFormed_rd, flagNumberWellFormed_eq, hf,
      -BitVec.getLsbD_eq_getElem, Bool.and_comm]

/-- Check 5 on the built instruction is check 5 on the raw record. -/
theorem build_bufferCheck {o : Opcode} {r : Record} (hop : (Control.ofWord r.cw).op = o.toByte) (nbuf : Nat) :
    (bufferNumber (o.build (Control.ofWord r.cw) r)).bind (bufferCheck nbuf) =
      if (opcodeByte r = 0x80 ∨ opcodeByte r = 0xC0) ∧ nbuf ≤ r.op3.toNat then some .badBuffer else none := by
  obtain ⟨-, -, hlogic⟩ := toByte_classes o
  obtain ⟨-, -, hbuffer⟩ := build_properties o (Control.ofWord r.cw) r
  rw [hbuffer, opcodeByte_eq, hop, ← hlogic]
  by_cases h : o.toByte.toNat = 0x80 ∨ o.toByte.toNat = 0xC0 <;> simp [h, bufferCheck]

/-! ## The fault a record raises -/

theorem firstFailure_of_error {r : Record} {c : Cause} (h : decode r = .error c) (nbuf : Nat) :
    firstFailure nbuf r = some (causeCode c) := by
  rcases decode_verdict r with ⟨hd, ha, -⟩ | ⟨hd, ha, hl⟩ | ⟨hd, ha, hl, hm⟩ | ⟨i, hd, -⟩ <;> rw [hd] at h <;> cases h
  · simp [firstFailure, ha, causeCode]
  · simp [firstFailure, ha, hl, causeCode]
  · simp [firstFailure, ha, hl, hm, causeCode]

theorem firstFailure_of_ok {r : Record} {i : Instr} (h : decode r = .ok i) (nbuf : Nat) :
    firstFailure nbuf r = (failedCheck nbuf i).map causeCode := by
  rcases decode_verdict r with ⟨hd, -⟩ | ⟨hd, -⟩ | ⟨hd, -⟩ | ⟨-, -, ha, hl, hm⟩
  case inl | inr.inl | inr.inr.inl => rw [hd] at h; cases h
  obtain ⟨o, hop, -, hf, rfl⟩ := decode_eq_ok_iff.mp h
  rw [failedCheck, build_wellFormed hop hf, build_bufferCheck hop]
  unfold firstFailure
  cases hn : namesMissing r with
  | true => simp [ha, hl, hm, nameCheck, causeCode]
  | false =>
    simp only [ha, hl, hm, nameCheck, not_true, if_false, Bool.not_true, Bool.not_false, if_true, Bool.false_eq_true,
      Option.none_or]
    split <;> rfl

/-- An effect answers without an error. -/
theorem effectShape_err {s t : State} (h : EffectShape s t) : t.rsp.err = false := by
  cases h <;> rfl

theorem present_of_ready {s : State} (h : s.cmdReady = true) (r : Record) : s.present r = s.issue r := by
  rw [State.present, if_pos h]

/-- Settles O34: the record fails in decoding, or fails a check of its instruction, or has the instruction's effect. -/
theorem faultExactlyWhenACheckFails : Obligations.FaultExactlyWhenACheckFails := by
  intro s r hready hf
  rw [present_of_ready hready]
  cases hd : decode r with
  | error c =>
    rw [firstFailure_of_error hd, s.issue_of_error hf hd, raise_eq_faultedWith]
    exact ⟨fun code hcode => by rw [Option.some.inj hcode], nofun⟩
  | ok i =>
    rw [firstFailure_of_ok hd, s.issue_of_ok hd]
    cases hc : failedCheck s.mem.buffers.length i with
    | some c =>
      rw [exec_of_failedCheck hf hc]
      exact ⟨fun code hcode => by rw [Option.some.inj hcode], nofun⟩
    | none =>
      obtain ⟨t, ht⟩ := causeOf_eq_none ((effectOf_cause i s).trans hc)
      have shape := effectOf_shape ht
      obtain ⟨hfault, hfcode⟩ := effectShape_latch shape
      exact ⟨nofun, fun _ => ⟨t, exec_of_ok hf ht, hfault.trans hf, hfcode, effectShape_valid shape, effectShape_err shape⟩⟩

/-! ## The response of every command -/

/-- A response that a command may give when it does not fail: `BR` and `SKIP` as its class allows, `RES` within its width
(R73). -/
def ResponseSuits (i : Instr) (r : Response) : Prop :=
  (r.br = true → isDecBranchCommand i = true) ∧ (r.skip = true → isMemoryCommand i = true) ∧
  r.res.toNat < 2 ^ resultWidth i

theorem suits_of_result {i : Instr} {r : Response} {width : Nat} (hw : resultWidth i = width)
    (h : ∃ x : BitVec width, r = .ofResult (x.setWidth 32)) : ResponseSuits i r := by
  subst hw
  obtain ⟨x, rfl⟩ := h
  refine ⟨nofun, nofun, lt_of_le_of_lt ?_ x.isLt⟩
  rw [Response.ofResult, BitVec.toNat_setWidth]
  exact Nat.mod_le ..

theorem suits_skipped {i : Instr} (h : isMemoryCommand i = true) : ResponseSuits i .skipped :=
  ⟨nofun, fun _ => h, Nat.two_pow_pos _⟩

/-- The result of a branch verdict is zext(`BR`) (43_decrement_branch.md R173). -/
theorem suits_of_branch {i : Instr} {r : Response} (hi : isDecBranchCommand i = true) (hw : resultWidth i = 32)
    (h : ∃ br, r = .ofBranch br) : ResponseSuits i r := by
  obtain ⟨br, rfl⟩ := h
  refine ⟨fun _ => hi, nofun, ?_⟩
  rw [hw]
  exact BitVec.isLt _

theorem finish_rsp_word (s : State) (v : Word) (rd : Option RegNum) :
    ∃ x : Word, (s.finish v rd).rsp = .ofResult (x.setWidth 32) :=
  ⟨v, by rw [State.finish_rsp, BitVec.setWidth_eq]⟩

theorem shiftEffect_rsp {width : Nat} {k : ShiftKind} {value count : Src} {rd : Option RegNum} {s t : State}
    (h : shiftEffect width k value count rd s = .ok t) : ∃ x : BitVec width, t.rsp = .ofResult (x.setWidth 32) := by
  obtain ⟨_, -, h⟩ := bind_eq_ok _ _ _ h
  obtain ⟨_, -, h⟩ := bind_eq_ok _ _ _ h
  cases h
  exact ⟨_, State.finish_rsp ..⟩

theorem logicEffect_rsp {k : LogicKind} {n : Nat} {offset value : Src} {b : Word} {rd : Option RegNum} {s t : State}
    (h : logicEffect k n offset value b rd s = .ok t) :
    t.rsp = .skipped ∨ ∃ x : BitVec (8 * n), t.rsp = .ofResult (x.setWidth 32) := by
  obtain ⟨_, -, h⟩ := bind_eq_ok _ _ _ h
  obtain ⟨_, -, h⟩ := bind_eq_ok _ _ _ h
  obtain ⟨_, -, h⟩ := bind_eq_ok _ _ _ h
  cases h
  split
  · exact .inl rfl
  · exact .inr ⟨_, State.finish_rsp ..⟩

theorem decBranchEffect_rsp {k : Cond} {d : RegNum} {s t : State} (h : decBranchEffect k d s = .ok t) :
    ∃ br, t.rsp = .ofBranch br := by
  obtain ⟨_, -, h⟩ := bind_eq_ok _ _ _ h
  cases h
  split <;> exact ⟨_, rfl⟩

theorem offsetEffect_rsp {header : Int} {stride x y : Src} {rd : Option RegNum} {s t : State}
    (h : offsetEffect header stride x y rd s = .ok t) : ∃ x : Word, t.rsp = .ofResult (x.setWidth 32) := by
  obtain ⟨_, -, h⟩ := bind_eq_ok _ _ _ h
  obtain ⟨_, -, h⟩ := bind_eq_ok _ _ _ h
  obtain ⟨_, -, h⟩ := bind_eq_ok _ _ _ h
  cases h
  exact finish_rsp_word ..

/-- An effect of a command answers as R73 allows that command. -/
theorem effectOf_rsp_suits {i : Instr} {s t : State} (h : effectOf i s = .ok t) : ResponseSuits i t.rsp := by
  cases i
  case rmov | flgget =>
    obtain ⟨_, -, h⟩ := bind_eq_ok _ _ _ h
    cases h
    exact suits_of_result rfl (finish_rsp_word ..)
  case radd | flgset =>
    obtain ⟨_, -, h⟩ := bind_eq_ok _ _ _ h
    obtain ⟨_, -, h⟩ := bind_eq_ok _ _ _ h
    cases h
    exact suits_of_result rfl (finish_rsp_word ..)
  case orB | orW | orL | andB | andW | andL =>
    obtain hskip | hresult := logicEffect_rsp h
    · exact hskip ▸ suits_skipped rfl
    · exact suits_of_result rfl hresult
  case offs | offsHdr => exact suits_of_result rfl (offsetEffect_rsp h)
  case asrW | asrL | aslW | aslL | lsrW | lsrL | lslW | lslL | rorW | rorL | rolW | rolL =>
    exact suits_of_result rfl (shiftEffect_rsp h)
  all_goals exact suits_of_branch rfl rfl (decBranchEffect_rsp h)

/-- An answer of `ERR` = 1 has zeros on the other outputs, and stands with `FAULT` = 1 (R73). -/
theorem response_of_error (i : Instr) {t : State} (hrsp : t.rsp = .error) (hfault : t.fault = true) :
    t.rsp.valid = true ∧ (t.rsp.br = true → isDecBranchCommand i = true) ∧
    (t.rsp.skip = true → isMemoryCommand i = true) ∧ (t.rsp.err = true ↔ t.fault = true) ∧
    (t.rsp.err = true → t.rsp.res = 0 ∧ t.rsp.br = false ∧ t.rsp.skip = false) ∧
    t.rsp.res.toNat < 2 ^ resultWidth i := by
  rw [hrsp, hfault]
  exact ⟨rfl, nofun, nofun, Iff.rfl, fun _ => ⟨rfl, rfl, rfl⟩, Nat.two_pow_pos _⟩

/-- Settles O48, by what an instruction can do: be answered while faulted, raise a cause, or have its effect. -/
theorem responseOfEveryCommand : Obligations.ResponseOfEveryCommand := by
  intro i s t h
  rcases exec_next_cases h with ⟨hf, rfl⟩ | ⟨-, c, -, rfl⟩ | ⟨hf, he⟩
  · exact response_of_error i rfl hf
  · exact response_of_error i rfl rfl
  · have shape := effectOf_shape he
    obtain ⟨hfault, -⟩ := effectShape_latch shape
    obtain ⟨hbr, hskip, hwidth⟩ := effectOf_rsp_suits he
    have herr := effectShape_err shape
    exact ⟨effectShape_valid shape, hbr, hskip, by simp [herr, hfault, hf], by simp [herr], hwidth⟩

end Sys2Proof.Proofs

/-! PROOFS. The family 40_register_access.md: `rmov`, `radd`, `flgget` and `flgset` finish with the state their rule names, and
a flag number names the bit of `CCR` that holds its flag. -/

namespace Sys2Proof.Proofs

open Sys2Proof Sys2Proof.Machine Sys2Proof.Safety

/-! ## What a finished command leaves -/

/-- Finishing with new flags changes them, the response and the destination register, and nothing else (30_encoding.md R73,
R77). -/
theorem finish_withFlags (s : State) (f : Flags) (res : Word) (rd : Option RegNum) :
    State.finish { s with flags := f } res rd = completedWith s rd res f := by
  cases rd <;> rfl

theorem finish_eq_completedWith (s : State) (res : Word) (rd : Option RegNum) :
    s.finish res rd = completedWith s rd res s.flags :=
  finish_withFlags s s.flags res rd

/-! ## `rmov` and `radd` -/

/-- Settles O10: `rmov` finishes with its operand as the result. -/
theorem rmovMovesItsOperand : Obligations.RmovMovesItsOperand := by
  intro src rd s op1 hf hsrc
  rw [exec_of_ok hf (effectOf_rmov_ok rd hsrc), finish_eq_completedWith]

/-- `radd` of readable operands has their sum as its result. -/
theorem effectOf_radd_ok {a b : Src} {s : State} {x y : Word} (rd : Option RegNum) (ha : resolve s a = .ok x)
    (hb : resolve s b = .ok y) : effectOf (.radd a b rd) s = .ok (s.finish (addResult x y) rd) := by
  simp [effectOf, ha, hb]

/-- Settles O11: the sum of two words is the sum of their values modulo 2^32. -/
theorem raddWrapsModulo : Obligations.RaddWrapsModulo := by
  intro a b rd s op1 op2 hf ha hb
  refine ⟨addResult op1 op2, BitVec.toNat_add op1 op2, ?_⟩
  rw [exec_of_ok hf (effectOf_radd_ok rd ha hb), finish_eq_completedWith]

/-! ## Flag numbers -/

/-- The bit of `CCR` that holds a flag, which is the flag's number (10_state.md R34). -/
def ccrBit : Flag → Nat
  | .c => 0
  | .v => 1
  | .z => 2
  | .n => 3
  | .x => 4

theorem toCcr_ccrBit (f : Flags) (a : Flag) : f.toCcr.getLsbD (ccrBit a) = f.get a := by
  obtain ⟨hc, hv, hz, hn, hx⟩ := f.toCcr_getLsbD
  cases a
  case c => exact hc
  case v => exact hv
  case z => exact hz
  case n => exact hn
  case x => exact hx

theorem exists_ccrBit_eq {j : Nat} (h : j < 5) : ∃ a, ccrBit a = j :=
  match j, h with
  | 0, _ => ⟨.c, rfl⟩
  | 1, _ => ⟨.v, rfl⟩
  | 2, _ => ⟨.z, rfl⟩
  | 3, _ => ⟨.n, rfl⟩
  | 4, _ => ⟨.x, rfl⟩

/-- A flag number resolves to the flag in that bit of `CCR` (40_register_access.md R104). -/
theorem resolveFlag_of_ccrBit {k : Word} {a : Flag} (h : ccrBit a = k.toNat) : resolveFlag k = .ok a := by
  unfold resolveFlag flagOfNumber
  rw [← h]
  cases a <;> rfl

/-- A flag number up to 4 names a flag. -/
theorem exists_resolveFlag_eq {k : Word} (h : k.toNat ≤ 4) : ∃ a, resolveFlag k = .ok a ∧ ccrBit a = k.toNat := by
  obtain ⟨a, hbit⟩ := exists_ccrBit_eq (Nat.lt_succ_of_le h)
  exact ⟨a, resolveFlag_of_ccrBit hbit, hbit⟩

/-! ## `flgget` -/

theorem effectOf_flgget_ok {k : Word} {a : Flag} (s : State) (rd : Option RegNum) (h : resolveFlag k = .ok a) :
    effectOf (.flgget k rd) s = .ok (s.finish ((BitVec.ofBool (s.flags.get a)).setWidth 32) rd) := by
  simp [effectOf, h]

theorem setWidth_ofBool (b : Bool) : (BitVec.ofBool b).setWidth 32 = if b then 1 else 0 := by
  cases b <;> rfl

/-- Settles O12: the flag that `flgget` reads is the bit of `CCR` with its number. -/
theorem flggetReadsOneFlag : Obligations.FlggetReadsOneFlag := by
  intro k rd s hf hk
  obtain ⟨a, ha, hbit⟩ := exists_resolveFlag_eq hk
  have hread : s.ccr.getLsbD k.toNat = s.flags.get a := hbit ▸ toCcr_ccrBit s.flags a
  rw [exec_of_ok hf (effectOf_flgget_ok s rd ha), finish_eq_completedWith, setWidth_ofBool, hread]

/-! ## `flgset` -/

theorem effectOf_flgset_ok {k : Word} {a : Flag} {src : Src} {s : State} {v : Word} (ha : resolveFlag k = .ok a)
    (hv : resolve s src = .ok v) :
    effectOf (.flgset k src) s = .ok (State.finish { s with flags := s.flags.set a (v.getLsbD 0) } 0 none) := by
  simp [effectOf, ha, hv]

/-- Setting a flag is seen in that flag alone. -/
theorem flags_get_set (f : Flags) (a a' : Flag) (b : Bool) :
    (f.set a b).get a' = if ccrBit a' = ccrBit a then b else f.get a' := by
  cases a <;> cases a' <;> rfl

/-- Setting a flag changes its bit of `CCR` and no other (40_register_access.md R105). -/
theorem toCcr_set (f : Flags) (a : Flag) (b : Bool) {j : Nat} (hj : j < 5) :
    (f.set a b).toCcr.getLsbD j = if j = ccrBit a then b else f.toCcr.getLsbD j := by
  obtain ⟨a', rfl⟩ := exists_ccrBit_eq hj
  rw [toCcr_ccrBit, toCcr_ccrBit, flags_get_set]

/-- Settles O13: `flgset` finishes with the one flag set that its number names. -/
theorem flgsetWritesOneFlag : Obligations.FlgsetWritesOneFlag := by
  intro k src s op2 hf hk hsrc
  obtain ⟨a, ha, hbit⟩ := exists_resolveFlag_eq hk
  refine ⟨s.flags.set a (op2.getLsbD 0), fun j hj => ?_, ?_⟩
  · rw [← hbit]
    exact toCcr_set s.flags a _ hj
  · rw [exec_of_ok hf (effectOf_flgset_ok ha hsrc), finish_withFlags]

end Sys2Proof.Proofs

/-! PROOFS. The family 41_shift_rotate.md: each of the twelve commands is one operation on W-bit values, so a rule about the
operation's result, carry and overflow at every width is a rule about both of its commands. -/

namespace Sys2Proof.Proofs

open Sys2Proof Sys2Proof.Machine Sys2Proof.Safety

/-! ## The operation a command performs -/

/-- The command is the operation `k` at width W. -/
structure PerformsShift (width : Nat) (k : ShiftKind) (mk : Src → Src → Option RegNum → Instr) : Prop where
  width_pos : 0 < width
  width_le : width ≤ 32
  effect : ∀ value count rd s, effectOf (mk value count rd) s = shiftEffect width k value count rd s

/-- The six word commands. -/
theorem performsShift_word (k : ShiftKind) : PerformsShift 16 k (Instr.ofShift k 1) :=
  ⟨by decide, by decide, fun _ _ _ _ => by cases k <;> rfl⟩

/-- The six long commands. -/
theorem performsShift_long (k : ShiftKind) : PerformsShift 32 k (Instr.ofShift k 2) :=
  ⟨by decide, by decide, fun _ _ _ _ => by cases k <;> rfl⟩

/-- With readable operands the command finishes with the result and the flags of its operation. -/
theorem exec_shift {width : Nat} {k : ShiftKind} {mk : Src → Src → Option RegNum → Instr} (hmk : PerformsShift width k mk)
    {value count : Src} (rd : Option RegNum) {s : State} {op1 op2 : Word} (hf : s.fault = false)
    (hvalue : resolve s value = .ok op1) (hcount : resolve s count = .ok op2) :
    exec (mk value count rd) s = .next (completedWith s rd
      ((shiftResult k (op1.setWidth width) (effectiveCount width op2)).setWidth 32)
      (s.flags.afterShift k (op1.setWidth width) (effectiveCount width op2))) := by
  rw [exec_of_ok hf ((hmk.effect ..).trans (shiftEffect_ok _ _ _ _ _ _ _ _ hvalue hcount)), finish_withFlags]

/-! ## Bits of a value and of its W-bit part -/

theorem getLsbD_setWidth_of_lt {width j : Nat} (v : Word) (h : j < width) : (v.setWidth width).getLsbD j = v.getLsbD j := by
  simp [h]

/-- Zero-extension to 32 bits keeps a W-bit value's being 0. -/
theorem setWidth_32_eq_zero_iff {width : Nat} (h : width ≤ 32) (r : BitVec width) : r.setWidth 32 = 0 ↔ r = 0 := by
  rw [← BitVec.toNat_inj, ← BitVec.toNat_inj, BitVec.toNat_setWidth_of_le h]
  simp

/-- A value below 2^W is its W-bit part. -/
theorem setWidth_32_setWidth_of_lt {width : Nat} {v : Word} (h : v.toNat < 2 ^ width) :
    (v.setWidth width).setWidth 32 = v := by
  apply BitVec.eq_of_toNat_eq
  rw [BitVec.toNat_setWidth, BitVec.toNat_setWidth, Nat.mod_eq_of_lt h, Nat.mod_eq_of_lt v.isLt]

/-! ## The flags of each operation -/

/-- The operations that write `X`: the shifts and not the rotates (R124). -/
def writesExtend : ShiftKind → Bool
  | .asr | .asl | .lsr | .lsl => true
  | .ror | .rol => false

/-- `X` is written as Carry by a shift by a non-zero effective count and by nothing else (R124). -/
theorem shiftExtend_eq {width : Nat} (k : ShiftKind) (v : BitVec width) (e : Nat) (old : Bool) :
    shiftExtend k v e old = if writesExtend k = true ∧ e ≠ 0 then shiftCarry k v e else old := by
  cases k
  case ror | rol => simp [shiftExtend, writesExtend]
  case asr | asl | lsr | lsl => by_cases he : e = 0 <;> simp [shiftExtend, writesExtend, he]

@[simp] theorem shiftCarry_zero {width : Nat} (k : ShiftKind) (v : BitVec width) : shiftCarry k v 0 = false := rfl

/-- The last bit to leave bit 0 is bit `e - 1` (R125, R129, R133). -/
theorem shiftCarry_right {width : Nat} {k : ShiftKind} (hk : k = .asr ∨ k = .lsr ∨ k = .ror) (v : BitVec width) {e : Nat}
    (hpos : 0 < e) (he : e < width) : shiftCarry k v e = v.getLsbD (e - 1) := by
  have hne : e ≠ 0 := Nat.ne_of_gt hpos
  rcases hk with rfl | rfl | rfl
  · exact if_neg hne
  · exact if_neg hne
  · have hwrap : (width - 1 + e) % width = e - 1 := by
      rw [Nat.mod_eq_sub_mod (by omega), Nat.mod_eq_of_lt (by omega)]
      omega
    calc shiftCarry .ror v e = (shiftResult .ror v e).getLsbD (width - 1) := if_neg hne
      _ = v.getLsbD (e - 1) := by rw [shiftResult_ror_bit v e _ he (by omega), hwrap]

/-- The last bit to leave the top is bit `W - e` (R127, R131, R135). -/
theorem shiftCarry_left {width : Nat} {k : ShiftKind} (hk : k = .asl ∨ k = .lsl ∨ k = .rol) (v : BitVec width) {e : Nat}
    (hpos : 0 < e) (he : e < width) : shiftCarry k v e = v.getLsbD (width - e) := by
  have hne : e ≠ 0 := Nat.ne_of_gt hpos
  rcases hk with rfl | rfl | rfl
  · exact if_neg hne
  · exact if_neg hne
  · calc shiftCarry .rol v e = (shiftResult .rol v e).getLsbD 0 := if_neg hne
      _ = v.getLsbD (width - e) := by
        rw [shiftResult_rol_bit v e 0 he (by omega), Nat.zero_add, Nat.mod_eq_of_lt (by omega)]

/-! ## What the rule of a family asks of its operation -/

/-- `N`, `Z` and `X` after a shift or rotate, read off the zero-extended result (R123, R124). -/
theorem afterShift_eq {width : Nat} (hle : width ≤ 32) (old : Flags) (k : ShiftKind) (v : BitVec width) (e : Nat) :
    old.afterShift k v e =
      { x := if writesExtend k = true ∧ e ≠ 0 then shiftCarry k v e else old.x
        n := ((shiftResult k v e).setWidth 32).getLsbD (width - 1)
        z := decide ((shiftResult k v e).setWidth 32 = 0)
        v := shiftOverflow k v e
        c := shiftCarry k v e } := by
  have hn : (shiftResult k v e).msb = ((shiftResult k v e).setWidth 32).getLsbD (width - 1) := by
    rw [BitVec.msb_eq_getLsbD_last, BitVec.getLsbD_setWidth, decide_eq_true (by omega), Bool.true_and]
  have hz : (shiftResult k v e == 0) = decide ((shiftResult k v e).setWidth 32 = 0) :=
    decide_eq_decide.mpr (setWidth_32_eq_zero_iff hle _).symm
  simp only [Flags.afterShift, hn, hz, shiftExtend_eq]

/-- A command meets the rule of its family when its operation does on the bits of every W-bit value. -/
theorem shiftMeets_of_performs {width : Nat} {k : ShiftKind} {mk : Src → Src → Option RegNum → Instr}
    {bit : Word → Nat → Nat → Bool} {carry overflow : Word → Nat → Bool} (hmk : PerformsShift width k mk)
    (hbit : ∀ v e i, e < width → i < width → (shiftResult k (v.setWidth width) e).getLsbD i = bit v e i)
    (hcarry : ∀ v e, 0 < e → e < width → shiftCarry k (v.setWidth width) e = carry v e)
    (hoverflow : ∀ v e, e < width → shiftOverflow k (v.setWidth width) e = overflow v e) :
    ShiftMeets width mk (writesExtend k) bit carry overflow := by
  intro value count rd s op1 op2 hf hvalue hcount
  have hpos := hmk.width_pos
  have hle := hmk.width_le
  have he : op2.toNat % width < width := Nat.mod_lt _ hpos
  refine ⟨(shiftResult k (op1.setWidth width) (op2.toNat % width)).setWidth 32, fun i => ?_, ?_⟩
  · rw [BitVec.getLsbD_setWidth]
    by_cases hi : i < width
    · rw [hbit _ _ _ he hi, decide_eq_true hi, decide_eq_true (Nat.lt_of_lt_of_le hi hle)]
    · rw [BitVec.getLsbD_of_ge _ i (Nat.le_of_not_lt hi), decide_eq_false hi, Bool.and_false, Bool.false_and]
  · have hx : (if writesExtend k = true ∧ op2.toNat % width ≠ 0 then shiftCarry k (op1.setWidth width) (op2.toNat % width)
        else s.flags.x) =
        if writesExtend k = true ∧ op2.toNat % width ≠ 0 then carry op1 (op2.toNat % width) else s.flags.x :=
      ite_congr rfl (fun h => hcarry _ _ (Nat.pos_of_ne_zero h.right) he) fun _ => rfl
    have hc : shiftCarry k (op1.setWidth width) (op2.toNat % width) =
        if op2.toNat % width = 0 then false else carry op1 (op2.toNat % width) := by
      split
      case isTrue hzero => rw [hzero, shiftCarry_zero]
      case isFalse hne => exact hcarry _ _ (Nat.pos_of_ne_zero hne) he
    rw [exec_shift hmk rd hf hvalue hcount, effectiveCount, afterShift_eq hle, hx, hc, hoverflow _ _ he]

/-! ## The six families, at every width (R125 to R136)

For each: where a bit of the result comes from, which bit is the last one out, and Overflow. -/

section
variable {width : Nat} {mk : Src → Src → Option RegNum → Instr}

theorem asr_meets (h : PerformsShift width .asr mk) :
    ShiftMeets width mk true (fun v e i => v.getLsbD (min (i + e) (width - 1))) (fun v e => v.getLsbD (e - 1))
      (fun _ _ => false) := by
  refine shiftMeets_of_performs h (fun v e i _ hi => ?_) (fun v e hpos he => ?_) (fun _ _ _ => rfl)
  · rw [shiftResult_asr_bit _ _ _ hi, getLsbD_setWidth_of_lt v (by omega)]
  · rw [shiftCarry_right (by simp) _ hpos he, getLsbD_setWidth_of_lt v (by omega)]

theorem asl_meets (h : PerformsShift width .asl mk) :
    ShiftMeets width mk true (fun v e i => decide (e ≤ i) && v.getLsbD (i - e)) (fun v e => v.getLsbD (width - e))
      (topBitsDiffer width) := by
  refine shiftMeets_of_performs h (fun v e i _ hi => ?_) (fun v e hpos he => ?_) (fun v e he => ?_)
  · rw [shiftResult_left_bit _ (by simp) _ _ _ hi, getLsbD_setWidth_of_lt v (by omega)]
  · rw [shiftCarry_left (by simp) _ hpos he, getLsbD_setWidth_of_lt v (by omega)]
  · have htop : ∀ j, (v.setWidth width).getLsbD (width - 1 - j) = v.getLsbD (width - 1 - j) := fun j =>
      getLsbD_setWidth_of_lt v (by omega)
    have hlast : (v.setWidth width).getLsbD (width - 1) = v.getLsbD (width - 1) := htop 0
    simp only [shiftOverflow_asl _ _ he, topBitsDiffer, htop, hlast]

theorem lsr_meets (h : PerformsShift width .lsr mk) :
    ShiftMeets width mk true (fun v e i => decide (i + e < width) && v.getLsbD (i + e)) (fun v e => v.getLsbD (e - 1))
      (fun _ _ => false) := by
  refine shiftMeets_of_performs h (fun v e i _ _ => ?_) (fun v e hpos he => ?_) (fun _ _ _ => rfl)
  · rw [shiftResult_lsr_bit, BitVec.getLsbD_setWidth, ← Bool.and_assoc, Bool.and_self]
  · rw [shiftCarry_right (by simp) _ hpos he, getLsbD_setWidth_of_lt v (by omega)]

theorem lsl_meets (h : PerformsShift width .lsl mk) :
    ShiftMeets width mk true (fun v e i => decide (e ≤ i) && v.getLsbD (i - e)) (fun v e => v.getLsbD (width - e))
      (fun _ _ => false) := by
  refine shiftMeets_of_performs h (fun v e i _ hi => ?_) (fun v e hpos he => ?_) (fun _ _ _ => rfl)
  · rw [shiftResult_left_bit _ (by simp) _ _ _ hi, getLsbD_setWidth_of_lt v (by omega)]
  · rw [shiftCarry_left (by simp) _ hpos he, getLsbD_setWidth_of_lt v (by omega)]

theorem ror_meets (h : PerformsShift width .ror mk) :
    ShiftMeets width mk false (fun v e i => v.getLsbD ((i + e) % width)) (fun v e => v.getLsbD (e - 1))
      (fun _ _ => false) := by
  refine shiftMeets_of_performs h (fun v e i he hi => ?_) (fun v e hpos he => ?_) (fun _ _ _ => rfl)
  · rw [shiftResult_ror_bit _ _ _ he hi, getLsbD_setWidth_of_lt v (Nat.mod_lt _ h.width_pos)]
  · rw [shiftCarry_right (by simp) _ hpos he, getLsbD_setWidth_of_lt v (by omega)]

theorem rol_meets (h : PerformsShift width .rol mk) :
    ShiftMeets width mk false (fun v e i => v.getLsbD ((i + width - e) % width)) (fun v e => v.getLsbD (width - e))
      (fun _ _ => false) := by
  refine shiftMeets_of_performs h (fun v e i he hi => ?_) (fun v e hpos he => ?_) (fun _ _ _ => rfl)
  · rw [shiftResult_rol_bit _ _ _ he hi, getLsbD_setWidth_of_lt v (Nat.mod_lt _ h.width_pos)]
  · rw [shiftCarry_left (by simp) _ hpos he, getLsbD_setWidth_of_lt v (by omega)]

end

/-- Settles O14: `asr` at any width, and its two widths. -/
theorem asrResultAndFlags : Obligations.AsrResultAndFlags :=
  ⟨asr_meets (performsShift_word .asr), asr_meets (performsShift_long .asr)⟩

/-- Settles O15: `asl` at any width, and its two widths. -/
theorem aslResultAndFlags : Obligations.AslResultAndFlags :=
  ⟨asl_meets (performsShift_word .asl), asl_meets (performsShift_long .asl)⟩

/-- Settles O16: `lsr` at any width, and its two widths. -/
theorem lsrResultAndFlags : Obligations.LsrResultAndFlags :=
  ⟨lsr_meets (performsShift_word .lsr), lsr_meets (performsShift_long .lsr)⟩

/-- Settles O17: `lsl` at any width, and its two widths. -/
theorem lslResultAndFlags : Obligations.LslResultAndFlags :=
  ⟨lsl_meets (performsShift_word .lsl), lsl_meets (performsShift_long .lsl)⟩

/-- Settles O18: `ror` at any width, and its two widths. -/
theorem rorResultAndFlags : Obligations.RorResultAndFlags :=
  ⟨ror_meets (performsShift_word .ror), ror_meets (performsShift_long .ror)⟩

/-- Settles O19: `rol` at any width, and its two widths. -/
theorem rolResultAndFlags : Obligations.RolResultAndFlags :=
  ⟨rol_meets (performsShift_word .rol), rol_meets (performsShift_long .rol)⟩

/-! ## Effective count 0 (R123) -/

theorem shiftOverflow_zero {width : Nat} (hpos : 0 < width) (k : ShiftKind) (v : BitVec width) :
    shiftOverflow k v 0 = false := by
  cases k
  case asl => rw [shiftOverflow_asl v 0 hpos]; simp
  case asr | lsr | lsl | ror | rol => rfl

/-- The flags at effective count 0, in the value as a number. -/
theorem afterShift_zero {width : Nat} (hpos : 0 < width) (old : Flags) (k : ShiftKind) (v : BitVec width) :
    old.afterShift k v 0 =
      { x := old.x, n := decide (2 ^ (width - 1) ≤ v.toNat), z := decide (v.toNat = 0), v := false, c := false } := by
  have hz : (v == 0) = decide (v.toNat = 0) := decide_eq_decide.mpr BitVec.toNat_inj.symm
  have hx : shiftExtend k v 0 old.x = old.x := by simp [shiftExtend_eq]
  rw [Flags.afterShift, hx, shiftResult_zero, BitVec.msb_eq_decide, hz, shiftOverflow_zero hpos, shiftCarry_zero]

/-- A command whose count is a multiple of the width finishes with the W-bit value itself. -/
theorem exec_shift_zero {width : Nat} {k : ShiftKind} {mk : Src → Src → Option RegNum → Instr}
    (hmk : PerformsShift width k mk) {value count : Src} (rd : Option RegNum) {s : State} {op1 op2 : Word}
    (hf : s.fault = false) (hvalue : resolve s value = .ok op1) (hcount : resolve s count = .ok op2)
    (hzero : op2.toNat % width = 0) :
    exec (mk value count rd) s = .next (completedWith s rd (BitVec.ofNat 32 (op1.toNat % 2 ^ width))
      { x := s.flags.x, n := decide (2 ^ (width - 1) ≤ op1.toNat % 2 ^ width), z := decide (op1.toNat % 2 ^ width = 0)
        v := false, c := false }) := by
  rw [exec_shift hmk rd hf hvalue hcount, effectiveCount, hzero, shiftResult_zero, afterShift_zero hmk.width_pos,
    ← BitVec.ofNat_toNat, BitVec.toNat_setWidth]

/-- Settles O20: the same for each of the six operations, at both widths. -/
theorem effectiveCountZeroKeepsTheValue : Obligations.EffectiveCountZeroKeepsTheValue := by
  intro value count rd s op1 op2 hf hvalue hcount
  refine ⟨fun hzero => ?_, fun hzero => ?_⟩
  · have hexec := fun k => exec_shift_zero (performsShift_word k) rd hf hvalue hcount hzero
    simp only [List.forall_mem_cons]
    exact ⟨hexec .asr, hexec .asl, hexec .lsr, hexec .lsl, hexec .ror, hexec .rol, nofun⟩
  · have hexec := fun k => exec_shift_zero (performsShift_long k) rd hf hvalue hcount hzero
    rw [Nat.mod_eq_of_lt op1.isLt, BitVec.ofNat_toNat, BitVec.setWidth_eq] at hexec
    simp only [List.forall_mem_cons]
    exact ⟨hexec .asr, hexec .asl, hexec .lsr, hexec .lsl, hexec .ror, hexec .rol, nofun⟩

/-! ## Rotating there and back (R137) -/

theorem ror_rol_cancel {width : Nat} (v : BitVec width) {e : Nat} (he : e < width) :
    shiftResult .ror (shiftResult .rol v e) e = v := by
  refine BitVec.eq_of_getLsbD_eq fun i hi => ?_
  have hwrap : ((i + e) % width + width - e) % width = i := by
    rw [Nat.add_sub_assoc he.le, Nat.mod_add_mod, show i + e + (width - e) = i + width by omega, Nat.add_mod_right,
      Nat.mod_eq_of_lt hi]
  rw [shiftResult_ror_bit _ _ _ he hi, shiftResult_rol_bit _ _ _ he (Nat.mod_lt _ (by omega)), hwrap]

theorem rol_ror_cancel {width : Nat} (v : BitVec width) {e : Nat} (he : e < width) :
    shiftResult .rol (shiftResult .ror v e) e = v := by
  refine BitVec.eq_of_getLsbD_eq fun i hi => ?_
  have hwrap : ((i + width - e) % width + e) % width = i := by
    rw [Nat.mod_add_mod, Nat.sub_add_cancel (by omega), Nat.add_mod_right, Nat.mod_eq_of_lt hi]
  rw [shiftResult_rol_bit _ _ _ he hi, shiftResult_ror_bit _ _ _ he (Nat.mod_lt _ (by omega)), hwrap]

/-- A register reads as its word, by its number. -/
theorem resolve_ofNat_reg (s : State) (d : RegNum) : resolve s (.reg (BitVec.ofNat 32 d.val)) = .ok (s.reg d) := by
  have hd : (BitVec.ofNat 32 d.val).toNat = d.val := Nat.mod_eq_of_lt (by omega)
  rw [resolve_reg_of_lt s _ (by omega)]
  simp only [hd]

/-- A destination register holds the result. -/
theorem completedWith_reg (s : State) (d : RegNum) (res : Word) (f : Flags) : (completedWith s (some d) res f).reg d = res :=
  State.setReg_reg_self s d res

/-- Two operations of which the second undoes the first give the value back through a register. -/
theorem exec_shift_undone {width : Nat} {k k' : ShiftKind} {mk mk' : Src → Src → Option RegNum → Instr}
    (hmk : PerformsShift width k mk) (hmk' : PerformsShift width k' mk')
    (hundo : ∀ (x : BitVec width) (e : Nat), e < width → shiftResult k' (shiftResult k x e) e = x) {v : Word} (n : Word)
    (d : RegNum) {s : State} (hf : s.fault = false) (hv : v.toNat < 2 ^ width) :
    ∃ t u, exec (mk (.imm v) (.imm n) (some d)) s = .next t ∧
      exec (mk' (.reg (BitVec.ofNat 32 d.val)) (.imm n) (some d)) t = .next u ∧ u.regs.get d = v := by
  refine ⟨_, _, exec_shift hmk (some d) hf (resolve_imm s v) (resolve_imm s n),
    exec_shift hmk' (some d) hf (resolve_ofNat_reg _ d) (resolve_imm _ n), ?_⟩
  refine (completedWith_reg _ d _ _).trans ?_
  rw [completedWith_reg, BitVec.setWidth_setWidth_of_le _ hmk.width_le, BitVec.setWidth_eq,
    hundo _ _ (effectiveCount_lt width n hmk.width_pos), setWidth_32_setWidth_of_lt hv]

/-- Settles O21: each rotate undoes the other. -/
theorem rotationIsInvertible : Obligations.RotationIsInvertible := by
  intro v n d s hf
  exact ⟨fun hv =>
      ⟨exec_shift_undone (performsShift_word .rol) (performsShift_word .ror) (fun x _ => ror_rol_cancel x) n d hf hv,
        exec_shift_undone (performsShift_word .ror) (performsShift_word .rol) (fun x _ => rol_ror_cancel x) n d hf hv⟩,
    exec_shift_undone (performsShift_long .rol) (performsShift_long .ror) (fun x _ => ror_rol_cancel x) n d hf v.isLt,
    exec_shift_undone (performsShift_long .ror) (performsShift_long .rol) (fun x _ => rol_ror_cancel x) n d hf v.isLt⟩

/-! ## Arithmetic and logical right shift (R138) -/

/-- The copies of a top bit that is 0 are the zeros of the logical shift. -/
theorem asr_eq_lsr_of_msb {width : Nat} {v : BitVec width} (h : v.msb = false) (e : Nat) :
    shiftResult .asr v e = shiftResult .lsr v e :=
  BitVec.sshiftRight_eq_of_msb_false h

/-- Carry, Overflow and `X` follow one rule for both right shifts, `N` and `Z` the result (R125, R129). -/
theorem afterShift_asr_eq_lsr {width : Nat} {v : BitVec width} (h : v.msb = false) (old : Flags) (e : Nat) :
    old.afterShift .asr v e = old.afterShift .lsr v e := by
  simp only [Flags.afterShift, asr_eq_lsr_of_msb h]
  rfl

theorem shiftEffect_asr_eq_lsr {width : Nat} {value : Src} (count : Src) (rd : Option RegNum) {s : State} {op1 : Word}
    (hvalue : resolve s value = .ok op1) (h : (op1.setWidth width).msb = false) :
    shiftEffect width .asr value count rd s = shiftEffect width .lsr value count rd s := by
  unfold shiftEffect
  rw [hvalue]
  cases resolve s count with
  | error c => rfl
  | ok op2 => simp only [bind_ok, asr_eq_lsr_of_msb h, afterShift_asr_eq_lsr h]

theorem exec_asr_eq_lsr {width : Nat} {mk mk' : Src → Src → Option RegNum → Instr} (hmk : PerformsShift width .asr mk)
    (hmk' : PerformsShift width .lsr mk') {value : Src} (count : Src) (rd : Option RegNum) {s : State} {op1 : Word}
    (hvalue : resolve s value = .ok op1) (h : op1.getLsbD (width - 1) = false) :
    exec (mk value count rd) s = exec (mk' value count rd) s := by
  have hpos := hmk.width_pos
  have hmsb : (op1.setWidth width).msb = false := by
    rw [BitVec.msb_eq_getLsbD_last, getLsbD_setWidth_of_lt op1 (by omega), h]
  rw [exec_eq, exec_eq, hmk.effect, hmk'.effect, shiftEffect_asr_eq_lsr count rd hvalue hmsb]

/-- Settles O22: the two effects are equal before the fault latch is looked at, so the two commands settle alike. -/
theorem rightShiftsAgreeOnTopBitZero : Obligations.RightShiftsAgreeOnTopBitZero := fun _ count rd _ _ hvalue =>
  ⟨exec_asr_eq_lsr (performsShift_word .asr) (performsShift_word .lsr) count rd hvalue,
    exec_asr_eq_lsr (performsShift_long .asr) (performsShift_long .lsr) count rd hvalue⟩

end Sys2Proof.Proofs

/-! PROOFS. The family 42_logical_memory.md: each of the six memory commands is one operation on the big-endian value of `n`
bytes, so the rule of a performed command is a rule about the bits of that operation and about the `n` bytes it stores. -/

namespace Sys2Proof.Proofs

open Sys2Proof Sys2Proof.Machine Sys2Proof.Safety

/-! ## The operation on bits -/

/-- What AND and OR do to one bit (R152). -/
def bitOp : LogicKind → Bool → Bool → Bool
  | .and => and
  | .or => or

theorem logicResult_getLsbD {width : Nat} (k : LogicKind) (d m : BitVec width) (i : Nat) :
    (logicResult k d m).getLsbD i = bitOp k (d.getLsbD i) (m.getLsbD i) := by
  cases k with
  | and => exact BitVec.getLsbD_and
  | or => exact BitVec.getLsbD_or

/-- The word that a performed access of `n` bytes answers and stores (R152). -/
def logicWord (k : LogicKind) (n : Nat) (buf : Buffer) (off : Nat) (mask : Word) : Word :=
  (logicResult k ((buf.memRead off n).setWidth (8 * n)) (mask.setWidth (8 * n))).setWidth 32

/-- Below `8n` a bit combines the stored bit of the big-endian value with that of the mask, and from there on it is 0. -/
theorem logicWord_getLsbD (k : LogicKind) {n : Nat} (hn : n ≤ 4) (buf : Buffer) (off : Nat) (mask : Word) (i : Nat) :
    (logicWord k n buf off mask).getLsbD i =
      (decide (i < 8 * n) &&
        bitOp k ((buf.readByte (off + (n - 1 - i / 8))).getLsbD (i % 8)) (mask.getLsbD i)) := by
  rw [logicWord, BitVec.getLsbD_setWidth]
  by_cases hi : i < 8 * n
  · have hi32 : i < 32 := by omega
    rw [logicResult_getLsbD, getLsbD_setWidth_of_lt _ hi, getLsbD_setWidth_of_lt _ hi, Buffer.memRead_getLsbD _ _ _ _ hn,
      decide_eq_true hi, decide_eq_true hi32, Bool.true_and, Bool.true_and, Bool.true_and]
  · rw [BitVec.getLsbD_of_ge _ i (Nat.le_of_not_lt hi), decide_eq_false hi, Bool.and_false, Bool.false_and]

/-- The flags after a performed command, read off the zero-extended result (R153). -/
theorem afterLogic_eq {width : Nat} (hle : width ≤ 32) (old : Flags) (r : BitVec width) :
    old.afterLogic r =
      { x := old.x, n := (r.setWidth 32).getLsbD (width - 1), z := decide (r.setWidth 32 = 0), v := false, c := false } := by
  have hn : r.msb = (r.setWidth 32).getLsbD (width - 1) := by
    rw [BitVec.msb_eq_getLsbD_last, BitVec.getLsbD_setWidth, decide_eq_true (by omega), Bool.true_and]
  have hz : (r == 0) = decide (r.setWidth 32 = 0) := decide_eq_decide.mpr (setWidth_32_eq_zero_iff hle r).symm
  rw [Flags.afterLogic, hn, hz]

/-! ## The bytes a performed command stores -/

/-- The `n` bytes at the offset hold the value, most significant byte first (20_memory.md R54). -/
theorem byteAt_memWrite_inside {m : Memory} {b off n j : Nat} {buf : Buffer} (v : Word) (hbuf : m.buffer b = some buf)
    (hfit : off + n ≤ buf.len.val) (hj : j < n) :
    (m.setBuffer b (buf.memWrite off n v)).byteAt b (off + j) = some (v.extractLsb' (8 * (n - 1 - j)) 8) := by
  have hlt : off + j < (buf.memWrite off n v).len.val := by
    rw [Buffer.memWrite_len]
    omega
  rw [Memory.byteAt_of_buffer _ b _ _ (m.buffer_setBuffer_self b _ buf hbuf) hlt, buf.memWrite_inside off n j v hj hfit]

/-- Every other byte, of this buffer and of the others, reads as before. -/
theorem byteAt_memWrite_outside {m : Memory} {b off n b' a : Nat} {buf : Buffer} (v : Word) (hbuf : m.buffer b = some buf)
    (h : b' ≠ b ∨ a < off ∨ off + n ≤ a) :
    (m.setBuffer b (buf.memWrite off n v)).byteAt b' a = m.byteAt b' a := by
  by_cases hb : b' = b
  · subst hb
    have ha : a < off ∨ off + n ≤ a := h.resolve_left fun hne => hne rfl
    exact byteAt_setBuffer_of_readByte hbuf (buf.memWrite_len off n v) (buf.memWrite_outside off n a v ha)
  · exact byteAt_congr (m.buffer_setBuffer_other b b' _ hb) a

/-- A performed access finishes with its word, its flags and its stored bytes, and nothing else changes (R152, R153). -/
theorem logicPerform_eq {n : Nat} (hn : n ≤ 4) (k : LogicKind) (s : State) (number : Nat) (buf : Buffer) (off : Nat)
    (mask : Word) (rd : Option RegNum) :
    logicPerform k n s number buf off mask rd =
      { completedWith s rd (logicWord k n buf off mask)
          { x := s.flags.x, n := (logicWord k n buf off mask).getLsbD (8 * n - 1)
            z := decide (logicWord k n buf off mask = 0), v := false, c := false }
        with mem := s.mem.setBuffer number (buf.memWrite off n (logicWord k n buf off mask)) } := by
  rw [logicPerform, afterLogic_eq (by omega)]
  cases rd <;> rfl

/-! ## The six commands -/

/-- The command is the operation `k` at a width of `n` bytes. -/
structure PerformsLogic (n : Nat) (k : LogicKind) (mk : Src → Src → Word → Option RegNum → Instr) : Prop where
  width_le : n ≤ 4
  effect : ∀ offset value b rd s, effectOf (mk offset value b rd) s = logicEffect k n offset value b rd s

theorem performsLogic_byte (k : LogicKind) : PerformsLogic 1 k (Instr.ofLogic k 0) :=
  ⟨by decide, fun _ _ _ _ _ => by cases k <;> rfl⟩

theorem performsLogic_word (k : LogicKind) : PerformsLogic 2 k (Instr.ofLogic k 1) :=
  ⟨by decide, fun _ _ _ _ _ => by cases k <;> rfl⟩

theorem performsLogic_long (k : LogicKind) : PerformsLogic 4 k (Instr.ofLogic k 2) :=
  ⟨by decide, fun _ _ _ _ _ => by cases k <;> rfl⟩

/-- With readable operands and an attached buffer, an access that the rule does not skip is performed (R152). -/
theorem exec_logic_performed {n : Nat} {k : LogicKind} {mk : Src → Src → Word → Option RegNum → Instr}
    (hmk : PerformsLogic n k mk) {offset value : Src} {b : Word} (rd : Option RegNum) {s : State} {op1 op2 : Word}
    {buf : Buffer} (hf : s.fault = false) (hoffset : resolve s offset = .ok op1) (hvalue : resolve s value = .ok op2)
    (hbuf : s.mem.buffer b.toNat = some buf) (hrule : s.edgeRule.skips op1.toInt n buf.len.val = false) :
    exec (mk offset value b rd) s = .next (logicPerform k n s b.toNat buf op1.toInt.toNat op2 rd) := by
  refine exec_of_ok hf ?_
  rw [hmk.effect, logicEffect_ok k n offset value b rd s op1 op2 buf hoffset hvalue hbuf, hrule]
  rfl

/-- A command meets the rule of a performed access: one that is not skipped lies inside the buffer, so each byte it reads or
stores exists. -/
theorem logicMeets_of_performs {n : Nat} {k : LogicKind} {mk : Src → Src → Word → Option RegNum → Instr}
    (hmk : PerformsLogic n k mk) : LogicMeets n mk (bitOp k) := by
  intro offset value b rd s op1 op2 len hf hoffset hvalue hlen hrule
  obtain ⟨buf, hbuf, rfl⟩ := Memory.bufLen_some hlen
  obtain ⟨hstart, hend⟩ := EdgeRule.inside_of_not_skips hrule
  have hfit : op1.toInt.toNat + n ≤ buf.len.val := by omega
  refine ⟨s.mem.setBuffer b.toNat (buf.memWrite op1.toInt.toNat n (logicWord k n buf op1.toInt.toNat op2)),
    logicWord k n buf op1.toInt.toNat op2, fun i => ?_, fun _ => byteAt_memWrite_inside _ hbuf hfit,
    fun _ _ => byteAt_memWrite_outside _ hbuf, ?_⟩
  · rw [logicWord_getLsbD k hmk.width_le]
    by_cases hi : i < 8 * n
    · rw [Memory.byteAt_of_buffer _ _ _ buf hbuf (by omega), Option.getD_some]
    · rw [decide_eq_false hi, Bool.false_and, Bool.false_and]
  · rw [exec_logic_performed hmk rd hf hoffset hvalue hbuf hrule, logicPerform_eq hmk.width_le]

/-- Settles O25: both operations at each of the three widths. -/
theorem logicalCommandsPerformed : Obligations.LogicalCommandsPerformed :=
  ⟨logicMeets_of_performs (performsLogic_byte .and), logicMeets_of_performs (performsLogic_word .and),
    logicMeets_of_performs (performsLogic_long .and), logicMeets_of_performs (performsLogic_byte .or),
    logicMeets_of_performs (performsLogic_word .or), logicMeets_of_performs (performsLogic_long .or)⟩

end Sys2Proof.Proofs

/-! PROOFS. The family 43_decrement_branch.md: the sixteen commands are one operation under sixteen conditions, so one rule
about that operation, with the condition as a parameter, is the rule of each of them; `dbra` is the one that always counts. -/

namespace Sys2Proof.Proofs

open Sys2Proof Sys2Proof.Machine Sys2Proof.Safety

/-! ## The sixteen conditions (R172) -/

/-- What the flags say when the condition of a command holds. -/
def Condition : Cond → Flags → Prop
  | .t, _ => True
  | .ra, _ => False
  | .hi, f => f.c = false ∧ f.z = false
  | .ls, f => f.c = true ∨ f.z = true
  | .cc, f => f.c = false
  | .cs, f => f.c = true
  | .ne, f => f.z = false
  | .eq, f => f.z = true
  | .vc, f => f.v = false
  | .vs, f => f.v = true
  | .pl, f => f.n = false
  | .mi, f => f.n = true
  | .ge, f => f.n = f.v
  | .lt, f => f.n ≠ f.v
  | .gt, f => f.z = false ∧ f.n = f.v
  | .le, f => f.z = true ∨ f.n ≠ f.v

theorem condHolds_iff (k : Cond) (f : Flags) : condHolds k f = true ↔ Condition k f := by
  cases k <;> simp [condHolds, Condition]

/-! ## The counter in the low half of a register (R171, R173) -/

theorem withLowHalf_eq (w : Word) (c : BitVec 16) :
    withLowHalf w c = BitVec.ofNat 32 (w.toNat / 65536 * 65536 + c.toNat) := by
  apply BitVec.eq_of_toNat_eq
  have hw := w.isLt
  have hc := c.isLt
  rw [withLowHalf, BitVec.toNat_append, BitVec.extractLsb'_toNat, BitVec.toNat_ofNat,
    ← Nat.shiftLeft_add_eq_or_of_lt hc, Nat.shiftLeft_eq, Nat.shiftRight_eq_div_pow]
  omega

theorem decrementedCounter_toNat (c : BitVec 16) : (decrementedCounter c).toNat = (c.toNat + 65535) % 65536 := by
  rw [decrementedCounter, BitVec.toNat_sub]
  exact congrArg (· % 65536) (Nat.add_comm ..)

/-- The decremented counter is 0xFFFF exactly when the counter has run out. -/
theorem decrementedCounter_bne (c : BitVec 16) : (decrementedCounter c != 0xFFFF#16) = decide (c.toNat ≠ 0) := by
  have hwrap : decrementedCounter c = 0xFFFF#16 ↔ c.toNat = 0 := by
    rw [BitVec.toNat_eq, decrementedCounter_toNat, BitVec.toNat_ofNat]
    omega
  rw [Bool.eq_iff_iff, bne_iff_ne, decide_eq_true_iff]
  exact not_congr hwrap

theorem counterValue_eq_mod (s : State) (d : RegNum) : counterValue s d = (s.reg d).toNat % 65536 := rfl

theorem counterValue_eq_toNat (s : State) (d : RegNum) : counterValue s d = ((s.reg d).setWidth 16).toNat :=
  (BitVec.toNat_setWidth 16 (s.reg d)).symm

theorem withCounter_eq (s : State) (d : RegNum) (c : Nat) :
    withCounter s d c = BitVec.ofNat 32 ((s.reg d).toNat / 65536 * 65536 + c) := rfl

theorem counterValue_lt (s : State) (d : RegNum) : counterValue s d < 65536 := Nat.mod_lt _ (by decide)

/-- The state with a counter value in the low half of a register and a verdict on the loop: what a command that counts
leaves. -/
def counted (s : State) (d : RegNum) (c : Nat) (br : Bool) : State :=
  { s with regs := s.regs.set d.val (withCounter s d c) d.isLt, rsp := Response.ofBranch br }

theorem counted_reg (s : State) (d : RegNum) (c : Nat) (br : Bool) : (counted s d c br).reg d = withCounter s d c :=
  State.setReg_reg_self s d _

theorem withCounter_toNat (s : State) (d : RegNum) {c : Nat} (hc : c < 65536) :
    (withCounter s d c).toNat = (s.reg d).toNat / 65536 * 65536 + c := by
  have hw := (s.reg d).isLt
  rw [withCounter_eq, BitVec.toNat_ofNat]
  exact Nat.mod_eq_of_lt (by omega)

/-- A counter reads back. -/
theorem counterValue_counted (s : State) (d : RegNum) {c : Nat} (br : Bool) (hc : c < 65536) :
    counterValue (counted s d c br) d = c := by
  rw [counterValue_eq_mod, counted_reg, withCounter_toNat s d hc]
  omega

/-- A counter replaces the one before, over the same high half. -/
theorem counted_counted (s : State) (d : RegNum) {c : Nat} (br : Bool) (c' : Nat) (br' : Bool) (hc : c < 65536) :
    counted (counted s d c br) d c' br' = counted s d c' br' := by
  have hhigh : (withCounter s d c).toNat / 65536 = (s.reg d).toNat / 65536 := by
    rw [withCounter_toNat s d hc]
    omega
  have hword : withCounter (counted s d c br) d c' = withCounter s d c' := by
    rw [withCounter_eq, counted_reg, hhigh, ← withCounter_eq]
  rw [counted, hword]
  simp only [counted, Vector.set_set]

/-! ## One command -/

/-- Each command is the one operation, under its own condition. -/
theorem effectOf_ofCond (k : Cond) (d : RegNum) (disp : Word) (s : State) :
    effectOf (Instr.ofCond k d disp) s = decBranchEffect k d s := by
  cases k <;> rfl

theorem counterWellFormed_of_le {d : RegNum} (hd : d.val ≤ 7) : counterWellFormed d = true := decide_eq_true hd

/-- While the condition holds, the loop is over and nothing is counted. -/
theorem exec_ofCond_of_holds {k : Cond} {d : RegNum} (disp : Word) {s : State} (hf : s.fault = false) (hd : d.val ≤ 7)
    (hk : condHolds k s.flags = true) : exec (Instr.ofCond k d disp) s = .next (s.respond (Response.ofBranch false)) := by
  refine exec_of_ok hf ?_
  rw [effectOf_ofCond, decBranchEffect_ok k d s (counterWellFormed_of_le hd), if_pos hk]

/-- Otherwise the counter goes down by one modulo 2^16, and the loop goes on unless it was 0. -/
theorem exec_ofCond_of_fails {k : Cond} {d : RegNum} (disp : Word) {s : State} (hf : s.fault = false) (hd : d.val ≤ 7)
    (hk : ¬ condHolds k s.flags = true) :
    exec (Instr.ofCond k d disp) s =
      .next (counted s d ((counterValue s d + 65535) % 65536) (decide (counterValue s d ≠ 0))) := by
  refine exec_of_ok hf ?_
  rw [effectOf_ofCond, decBranchEffect_ok k d s (counterWellFormed_of_le hd), if_neg hk, withLowHalf_eq,
    decrementedCounter_toNat, decrementedCounter_bne, ← counterValue_eq_toNat, ← withCounter_eq]
  rfl

/-- The verdict as its two outputs, `RES` = zext(`BR`). -/
theorem ofBranch_ne_zero (c : Nat) :
    Response.ofBranch (decide (c ≠ 0)) = ⟨true, if c = 0 then 0 else 1, decide (c ≠ 0), false, false⟩ := by
  cases c <;> rfl

theorem decBranchMeets_condition (k : Cond) : DecBranchMeets (Instr.ofCond k) (Condition k) := by
  intro d disp s hf hd
  rw [← condHolds_iff]
  refine ⟨exec_ofCond_of_holds disp hf hd, fun hk => ?_⟩
  rw [exec_ofCond_of_fails disp hf hd hk, counted, ofBranch_ne_zero]

/-- Settles O31: each of the sixteen is the operation under its condition. -/
theorem decBranchCommandsFollowTheirConditions : Obligations.DecBranchCommandsFollowTheirConditions :=
  ⟨decBranchMeets_condition .t, decBranchMeets_condition .ra, decBranchMeets_condition .hi, decBranchMeets_condition .ls,
    decBranchMeets_condition .cc, decBranchMeets_condition .cs, decBranchMeets_condition .ne, decBranchMeets_condition .eq,
    decBranchMeets_condition .vc, decBranchMeets_condition .vs, decBranchMeets_condition .pl, decBranchMeets_condition .mi,
    decBranchMeets_condition .ge, decBranchMeets_condition .lt, decBranchMeets_condition .gt, decBranchMeets_condition .le⟩

/-! ## A loop under `dbra` (R190) -/

theorem execTimes_succ {i : Instr} {s t : State} (h : exec i s = .next t) (j : Nat) :
    execTimes i (j + 1) s = execTimes i j t := by
  rw [execTimes, h]

/-- The condition of `dbra` never holds, so it always counts (R175). -/
theorem exec_dbra {d : RegNum} (disp : Word) {s : State} (hf : s.fault = false) (hd : d.val ≤ 7) :
    exec (.dbra d disp) s =
      .next (counted s d ((counterValue s d + 65535) % 65536) (decide (counterValue s d ≠ 0))) :=
  exec_ofCond_of_fails (k := .ra) disp hf hd Bool.false_ne_true

/-- `dbra` on a counter above 0 goes on with the next lower one. -/
theorem exec_dbra_again {d : RegNum} (disp : Word) {s : State} {c : Nat} (hf : s.fault = false) (hd : d.val ≤ 7)
    (hc : counterValue s d = c + 1) : exec (.dbra d disp) s = .next (counted s d c true) := by
  have hlt := counterValue_lt s d
  have hdown : (counterValue s d + 65535) % 65536 = c := by omega
  have hgo : counterValue s d ≠ 0 := by omega
  rw [exec_dbra disp hf hd, hdown, decide_eq_true hgo]

/-- `dbra` on a counter of 0 ends the loop and leaves 0xFFFF. -/
theorem exec_dbra_over {d : RegNum} (disp : Word) {s : State} (hf : s.fault = false) (hd : d.val ≤ 7)
    (hc : counterValue s d = 0) : exec (.dbra d disp) s = .next (counted s d 0xFFFF false) := by
  rw [exec_dbra disp hf hd, hc]
  rfl

/-- As long as the counter lasts, each execution takes one from it and the loop goes on. -/
theorem execTimes_dbra_counts {d : RegNum} (disp : Word) (hd : d.val ≤ 7) (j : Nat) {s : State} {c : Nat}
    (hf : s.fault = false) (hc : counterValue s d = c + (j + 1)) :
    execTimes (.dbra d disp) (j + 1) s = .next (counted s d c true) := by
  induction j generalizing s with
  | zero => exact execTimes_succ (exec_dbra_again disp hf hd hc) 0
  | succ j ih =>
    have hlt := counterValue_lt s d
    have hfits : c + (j + 1) < 65536 := by omega
    have hfirst : exec (.dbra d disp) s = .next (counted s d (c + (j + 1)) true) := exec_dbra_again disp hf hd hc
    rw [execTimes_succ hfirst, ih (s := counted s d _ true) hf (counterValue_counted s d true hfits),
      counted_counted s d true c true hfits]

/-- The execution after the last of them ends the loop. -/
theorem execTimes_dbra_ends {d : RegNum} (disp : Word) (hd : d.val ≤ 7) (k : Nat) {s : State} (hf : s.fault = false)
    (hc : counterValue s d = k) : execTimes (.dbra d disp) (k + 1) s = .next (counted s d 0xFFFF false) := by
  induction k generalizing s with
  | zero => exact execTimes_succ (exec_dbra_over disp hf hd hc) 0
  | succ k ih =>
    have hlt := counterValue_lt s d
    have hfits : k < 65536 := by omega
    rw [execTimes_succ (exec_dbra_again disp hf hd hc), ih (s := counted s d _ true) hf (counterValue_counted s d true hfits),
      counted_counted s d true 0xFFFF false hfits]

/-- Settles O32: by induction on the executions, each of which leaves the counter one lower. -/
theorem dbraAnswersCounterPlusOneTimes : Obligations.DbraAnswersCounterPlusOneTimes := by
  intro d disp s hf hd
  refine ⟨fun j hj hle => ?_, execTimes_dbra_ends disp hd _ hf rfl⟩
  obtain ⟨j, rfl⟩ := Nat.exists_eq_succ_of_ne_zero (Nat.ne_of_gt hj)
  exact execTimes_dbra_counts disp hd j hf (Nat.sub_add_cancel hle).symm

/-! ## The flags (R192) -/

theorem decBranchEffect_flags {k : Cond} {d : RegNum} {s t : State} (h : decBranchEffect k d s = .ok t) :
    t.flags = s.flags := by
  obtain ⟨_, -, h⟩ := bind_eq_ok _ _ _ h
  cases h
  split <;> rfl

theorem effectOf_flags_of_decBranch {i : Instr} {s t : State} (hi : isDecBranchCommand i = true) (h : effectOf i s = .ok t) :
    t.flags = s.flags := by
  cases i
  case dbt | dbra | dbhi | dbls | dbcc | dbcs | dbne | dbeq | dbvc | dbvs | dbpl | dbmi | dbge | dblt | dbgt | dble =>
    exact decBranchEffect_flags h
  all_goals cases hi

/-- Settles O50, by what an instruction can do: be answered while faulted, raise a cause, or have its effect. -/
theorem decBranchWritesNoFlag : Obligations.DecBranchWritesNoFlag := by
  intro i s t hi h
  rcases exec_next_cases h with ⟨-, rfl⟩ | ⟨-, c, -, rfl⟩ | ⟨-, he⟩
  · rfl
  · rfl
  · exact effectOf_flags_of_decBranch hi he

end Sys2Proof.Proofs

/-! PROOFS. The family 44_addressing_helpers.md: both commands are one operation with a number of header rows, so one rule
about that operation, with the header as a parameter, is the rule of each of them. -/

namespace Sys2Proof.Proofs

open Sys2Proof Sys2Proof.Machine Sys2Proof.Safety

/-- The offset is the exact integer reduced modulo 2^32 (R200). -/
theorem byteOffset_toNat (header : Int) (stride x y : Word) :
    ((byteOffset header stride x y).toNat : Int) =
      ((y.toInt + header) * stride.toInt + x.toInt.fdiv 8) % 2 ^ 32 := by
  rw [byteOffset, BitVec.toNat_ofInt]
  exact Int.toNat_of_nonneg (Int.emod_nonneg _ (by decide))

/-- With readable operands a command whose effect is `offsetEffect` finishes with the offset and writes no flag. -/
theorem exec_offset {mk : Src → Src → Src → Option RegNum → Instr} {header : State → Int}
    (hmk : ∀ stride x y rd s, effectOf (mk stride x y rd) s = offsetEffect (header s) stride x y rd s)
    {stride x y : Src} (rd : Option RegNum) {s : State} {op1 op2 op3 : Word} (hf : s.fault = false)
    (hstride : resolve s stride = .ok op1) (hx : resolve s x = .ok op2) (hy : resolve s y = .ok op3) :
    exec (mk stride x y rd) s = .next (completedWith s rd (byteOffset (header s) op1 op2 op3) s.flags) := by
  rw [exec_of_ok hf ((hmk ..).trans (offsetEffect_ok _ _ _ _ _ _ _ _ _ hstride hx hy)), finish_eq_completedWith]

/-- Such a command meets the rule of its header: the quotient is the one that the division toward minus infinity gives. -/
theorem offsetMeets_of_effect {mk : Src → Src → Src → Option RegNum → Instr} {header : State → Int}
    (hmk : ∀ stride x y rd s, effectOf (mk stride x y rd) s = offsetEffect (header s) stride x y rd s) :
    OffsetMeets mk header := by
  intro stride x y rd s op1 op2 op3 hf hstride hx hy
  have hpos : (0 : Int) < 8 := by decide
  exact ⟨byteOffset (header s) op1 op2 op3, op2.toInt.fdiv 8, Int.mul_fdiv_self_le hpos, Int.lt_mul_fdiv_self_add hpos,
    byteOffset_toNat (header s) op1 op2 op3, exec_offset hmk rd hf hstride hx hy⟩

/-- Settles O33: `offs` is the operation without a header, `offs_hdr` the one with the state's `HDR_ROWS` (R201, R202). -/
theorem helpersComputeByteOffsets : Obligations.HelpersComputeByteOffsets :=
  ⟨offsetMeets_of_effect fun _ _ _ _ _ => rfl, offsetMeets_of_effect fun _ _ _ _ _ => rfl⟩

end Sys2Proof.Proofs

/-! PROOFS. The family 45_host_sequencer.md: how the command index moves, what the step answers in each state of a run, what no
step changes, and what core a run starts on. -/

namespace Sys2Proof.Proofs

open Sys2Proof Sys2Proof.Machine Sys2Proof.Safety

/-! ## The command index -/

/-- Group 5 is read from `CW[31:28]` as a number (R215). -/
theorem isDecBranch_iff (r : Record) : isDecBranch r = true ↔ r.cw.toNat / 2 ^ 28 = 5 := by
  have hw := r.cw.isLt
  simp only [isDecBranch, beq_iff_eq, ← BitVec.toNat_inj, BitVec.extractLsb'_toNat, Nat.shiftRight_eq_div_pow,
    BitVec.toNat_ofNat]
  omega

theorem nextCpc_eq (cpc : Int) (r : Record) (rsp : Response) :
    nextCpc cpc r rsp =
      if rsp.err = true then cpc
      else if r.cw.toNat / 2 ^ 28 = 5 ∧ rsp.br = true then cpc + r.op1.toInt
      else cpc + 1 := by
  simp only [nextCpc, Bool.and_eq_true, isDecBranch_iff]

/-! ## A record issued to the core -/

/-- While `FAULT` = 0 every record issued is answered, by the cause it raises in decoding or by its instruction
(30_encoding.md R72, R82). -/
theorem issue_answers {s : State} (hf : s.fault = false) (r : Record) : ∃ t, s.issue r = .next t := by
  cases hd : decode r with
  | error c => exact ⟨_, s.issue_of_error hf hd⟩
  | ok i => exact ⟨_, (s.issue_of_ok hd).trans (exec_eq i s)⟩

/-- The core does not touch the command index (10_state.md R27). -/
theorem issue_cpc {s t : State} {r : Record} (hf : s.fault = false) (h : s.issue r = .next t) : t.cpc = s.cpc := by
  cases hd : decode r with
  | error c =>
    rw [s.issue_of_error hf hd] at h
    injection h with h
    rw [← h, State.raise_cpc]
  | ok i =>
    obtain ⟨hcpc, -⟩ := exec_sameHostPart ((s.issue_of_ok hd).symm.trans h)
    exact hcpc

/-! ## Where a run stands -/

theorem runStatus_stopped {s : State} (hf : s.fault = true) : s.runStatus = .stopped := by
  rw [State.runStatus, if_pos hf]

theorem runStatus_complete {s : State} (hf : s.fault = false) (hc : s.cpc = s.program.length) :
    s.runStatus = .complete := by
  simp [State.runStatus, hf, hc]

/-- Outside the program there is no record, before its start and past its end (R217). -/
theorem runStatus_malformed {s : State} (hf : s.fault = false) (hc : s.cpc < 0 ∨ (s.program.length : Int) < s.cpc) :
    s.runStatus = .malformed := by
  by_cases hneg : s.cpc < 0
  · simp [State.runStatus, hf, hneg]
  · have hpast := hc.resolve_left hneg
    have hnone : s.program[s.cpc.toNat]? = none := List.getElem?_eq_none (by omega)
    simp [State.runStatus, hf, hneg, hnone, ne_of_gt hpast]

/-! ## What the step answers in each state of a run -/

theorem step_of_stopped {s : State} (hready : s.cmdReady = true) (h : s.runStatus = .stopped) :
    step s = .fault (.stoppedByFault s.fcode) := by
  simp [step, State.sequence, hready, h]

theorem step_of_complete {s : State} (hready : s.cmdReady = true) (h : s.runStatus = .complete) : step s = .next s := by
  simp [step, State.sequence, hready, h]

theorem step_of_malformed {s : State} (hready : s.cmdReady = true) (h : s.runStatus = .malformed) :
    step s = .fault .branchOutsideProgram := by
  simp [step, State.sequence, hready, h]

/-- With a record at `cpc` the step issues it, and what the core answers, which leaves `cpc` to the sequencer, moves the
command index (R215, R217). -/
theorem step_of_issue {s t : State} {r : Record} (hready : s.cmdReady = true) (hf : s.fault = false) (h0 : 0 ≤ s.cpc)
    (hr : s.program[s.cpc.toNat]? = some r) (h : s.issue r = .next t) :
    step s = .next { t with cpc :=
      if t.rsp.err = true then s.cpc
      else if r.cw.toNat / 2 ^ 28 = 5 ∧ t.rsp.br = true then s.cpc + r.op1.toInt
      else s.cpc + 1 } := by
  have hstep : step s = .next (t.advance r) := by
    simp [step, State.sequence, hready, State.runStatus_running hf h0 hr, h]
  rw [hstep, State.advance, nextCpc_eq, issue_cpc hf h]

/-- Settles O45: each clause is one state of a run, `complete`, `stopped` or `malformed`. -/
theorem sequencerEndsItsRun : Obligations.SequencerEndsItsRun := fun _ hready =>
  ⟨fun hf hc => step_of_complete hready (runStatus_complete hf hc),
    fun hf => step_of_stopped hready (runStatus_stopped hf),
    fun hf hc => step_of_malformed hready (runStatus_malformed hf hc)⟩

/-- Settles O43: the record is issued as its instruction. -/
theorem stepRunsTheDecodedInstruction : Obligations.StepRunsTheDecodedInstruction :=
  fun s _ _ _ hready hf h0 hr hd hexec => step_of_issue hready hf h0 hr ((s.issue_of_ok hd).trans hexec)

/-- A record that decodes to nothing raises its cause, and the error keeps the command index (R82, R217). -/
theorem step_of_decode_error {s : State} {r : Record} {c : Cause} (hready : s.cmdReady = true) (hf : s.fault = false)
    (h0 : 0 ≤ s.cpc) (hr : s.program[s.cpc.toNat]? = some r) (hd : decode r = .error c) :
    step s = .next (faultedWith s (causeCode c)) :=
  step_of_issue hready hf h0 hr (s.issue_of_error hf hd)

/-- Settles O44: the three causes of decoding have the codes 1, 2 and 3 (60_exceptions.md R233). -/
theorem stepOnIllegalRecordFaults : Obligations.StepOnIllegalRecordFaults := fun _ _ hready hf h0 hr =>
  ⟨step_of_decode_error hready hf h0 hr, step_of_decode_error hready hf h0 hr, step_of_decode_error hready hf h0 hr⟩

/-! ## What no step changes -/

/-- Settles O46, by what a step can do: only an instruction's effect needs an argument, which leaves what belongs to the host
and every length as they are. -/
theorem stepKeepsProgramAndPlatform : Obligations.StepKeepsProgramAndPlatform := by
  intro s t hstep
  have hlens := step_lens hstep
  rcases step_next_cases hstep with rfl | ⟨r, -, -, -, ⟨c, -, rfl⟩ | ⟨i, c, -, -, rfl⟩ | ⟨i, u, -, he, rfl⟩⟩
  · exact ⟨rfl, rfl, rfl, rfl, rfl, hlens⟩
  · exact ⟨rfl, rfl, rfl, rfl, rfl, hlens⟩
  · exact ⟨rfl, rfl, rfl, rfl, rfl, hlens⟩
  · obtain ⟨-, hprogram, hrows, hflags, hedge, hready⟩ := effectShape_sameHostPart (effectOf_shape he)
    exact ⟨hprogram, hrows, hflags, hedge, hready, hlens⟩

/-! ## The seeded core -/

/-- While `FAULT` = 0 a register is seeded by the `rmov` of its value modulo 2^32 (70_reset_and_hazards.md R262). -/
theorem seed_eq {s : State} (hf : s.fault = false) (r : RegNum) (v : Int) :
    s.seed r v = s.finish (BitVec.ofInt 32 v) (some r) := by
  have hexec : exec (.regwr r (immediate v)) s = .next (s.finish (BitVec.ofInt 32 v) (some r)) :=
    exec_of_ok hf (effectOf_rmov_ok (some r) (resolve_imm s _))
  rw [State.seed, hexec]

theorem createContext_concat (s : State) (config : List (RegNum × Int)) (entry : RegNum × Int) :
    s.createContext (config ++ [entry]) = (s.createContext config).seed entry.1 entry.2 :=
  List.foldl_concat ..

/-- Seeding changes nothing of the state after `RST` but the registers and the response. -/
theorem createContext_frame (s : State) (config : List (RegNum × Int)) :
    ∃ regs rsp, s.createContext config = { s.pulseReset with regs := regs, rsp := rsp } := by
  induction config using List.reverseRecOn with
  | nil => exact ⟨_, _, rfl⟩
  | append_singleton config entry ih =>
    obtain ⟨regs, rsp, h⟩ := ih
    rw [createContext_concat, h, seed_eq rfl]
    exact ⟨_, _, rfl⟩

theorem createContext_fault (s : State) (config : List (RegNum × Int)) : (s.createContext config).fault = false := by
  obtain ⟨regs, rsp, h⟩ := createContext_frame s config
  exact congrArg State.fault h

/-- A seeded register holds the last value listed for it, any other 0: the entry written last decides, and behind it the
entries before (70_reset_and_hazards.md R262, notes/assumptions/16.md). -/
theorem createContext_reg (s : State) (config : List (RegNum × Int)) (r : RegNum) :
    (s.createContext config).reg r = BitVec.ofInt 32 ((config.reverse.lookup r).getD 0) := by
  induction config using List.reverseRecOn with
  | nil => exact zeroRegs_get r
  | append_singleton config entry ih =>
    obtain ⟨q, v⟩ := entry
    rw [createContext_concat, seed_eq (createContext_fault s config), List.reverse_concat, List.lookup_cons]
    by_cases hq : r = q
    · subst hq
      rw [beq_self_eq_true]
      exact State.setReg_reg_self _ r _
    · rw [beq_eq_false_iff_ne.mpr hq, ← ih]
      exact State.setReg_reg_other _ q r _ hq

/-! ## The start of a run -/

/-- Settles O42: the core is the state after `RST` but for the seeded registers and the response, and its first step issues
record 0 from `cpc` = 0 (R214, R215). -/
theorem sequencerStartsAtZero : Obligations.SequencerStartsAtZero := by
  intro s config p t
  obtain ⟨regs, rsp, hframe⟩ := createContext_frame s config
  have hready : t.cmdReady = true := congrArg State.cmdReady hframe
  have hfault : t.fault = false := createContext_fault s config
  refine ⟨rfl, rfl, hready, hfault, (congrArg State.fcode hframe :), (congrArg State.flags hframe :),
    (congrArg State.mem hframe :), (congrArg State.hdrRows hframe :), (congrArg State.flagReset hframe :),
    (congrArg State.edgeRule hframe :), createContext_reg s config, fun r rest hp => ?_⟩
  have hrecord : t.program[t.cpc.toNat]? = some r := congrArg (·[0]?) hp
  obtain ⟨u, hissue⟩ := issue_answers hfault r
  rw [step_of_issue hready hfault le_rfl hrecord hissue, present_of_ready hready, hissue,
    show t.cpc = 0 from rfl, zero_add, zero_add]

end Sys2Proof.Proofs

/-! PROOFS. The family 60_exceptions.md: what a faulted core answers, and what the fault of a record depends on. -/

namespace Sys2Proof.Proofs

open Sys2Proof Sys2Proof.Machine Sys2Proof.Safety

/-! ## The faulted core -/

/-- A faulted core gives its answer to a record that fails in decoding and to one that is an instruction alike (R235). -/
theorem issue_of_faulted {s : State} (hf : s.fault = true) (r : Record) : s.issue r = .next s.answerFaulted := by
  cases hd : decode r with
  | error c =>
    rw [State.issue, hd]
    exact congrArg Host.Outcome.next (s.settle_faulted (.error c) hf)
  | ok i => rw [s.issue_of_ok hd, exec_of_faulted i hf]

/-- Settles O36: the answer of the faulted core is the state with the error response, and nothing else of it changed. -/
theorem faultedCoreAnswersError : Obligations.FaultedCoreAnswersError := fun _ hf =>
  ⟨fun r hready => (present_of_ready hready r).trans (issue_of_faulted hf r), fun i => exec_of_faulted i hf⟩

/-! ## The verdict on a record -/

/-- The first check a record fails decides the latch and `ERR` of the answer: it is a fault, with that check's code, exactly
when there is such a check (30_encoding.md R82, 60_exceptions.md R232, R233). -/
theorem present_verdict {s t : State} {r : Record} (hready : s.cmdReady = true) (hf : s.fault = false)
    (h : s.present r = .next t) :
    t.fault = (firstFailure s.mem.buffers.length r).isSome ∧
    (∀ code, firstFailure s.mem.buffers.length r = some code → t.fcode = code) ∧
    t.rsp.err = (firstFailure s.mem.buffers.length r).isSome := by
  obtain ⟨hfails, hpasses⟩ := faultExactlyWhenACheckFails s r hready hf
  cases hcheck : firstFailure s.mem.buffers.length r with
  | some code =>
    rw [hfails code hcheck] at h
    injection h with h
    subst h
    exact ⟨rfl, fun _ hcode => Option.some.inj hcode, rfl⟩
  | none =>
    obtain ⟨u, hu, hfault, -, -, herr⟩ := hpasses hcheck
    rw [hu] at h
    injection h with h
    subst h
    exact ⟨hfault, nofun, herr⟩

/-- Settles O37: the first check that a record fails is a function of the record and `NBUF`, so both cores fail the same. -/
theorem faultDependsOnRecordAndNbufOnly : Obligations.FaultDependsOnRecordAndNbufOnly := by
  intro s s' t t' r hready hready' hf hf' hnbuf h h'
  obtain ⟨hfault, hfcode, herr⟩ := present_verdict hready hf h
  obtain ⟨hfault', hfcode', herr'⟩ := present_verdict hready' hf' h'
  rw [← hnbuf] at hfault' hfcode' herr'
  refine ⟨hfault.trans hfault'.symm, fun hraised => ?_, herr.trans herr'.symm⟩
  obtain ⟨code, hcode⟩ := Option.isSome_iff_exists.mp (hfault.symm.trans hraised)
  exact (hfcode code hcode).trans (hfcode' code hcode).symm

end Sys2Proof.Proofs

/-! PROOFS. The family 70_reset_and_hazards.md: what `RST` does to a state, why the invariant holds after it, and the registers
a `context` seeds. -/

namespace Sys2Proof.Proofs

open Sys2Proof Sys2Proof.Machine Sys2Proof.Safety

/-! ## The seeded registers -/

/-- Seeding writes no buffer: memory is that of the state before `RST` (70_reset_and_hazards.md R260, R262). -/
theorem createContext_mem (s : State) (config : List (RegNum × Int)) : (s.createContext config).mem = s.mem := by
  obtain ⟨regs, rsp, hframe⟩ := createContext_frame s config
  exact (congrArg State.mem hframe :)

/-- Settles O41, by the induction over the entries in `createContext_reg` and the frame of seeding. -/
theorem contextSeedsRegisters : Obligations.ContextSeedsRegisters := fun s config r =>
  ⟨createContext_reg s config r, createContext_fault s config, createContext_mem s config⟩

/-! ## The reset port -/

/-- Settles O38: `zeroRegs` holds 0 in each register, and the two events are the updates the rule names (R260). -/
theorem resetPortGivesResetValues : Obligations.ResetPortGivesResetValues := fun _ => ⟨zeroRegs_get, rfl, rfl⟩

/-! ## The invariant after reset -/

theorem latchFits_clear : LatchFits false 0 := ⟨fun _ => rfl, nofun⟩

theorem responseFits_idle : ResponseFits .idle := ⟨nofun, nofun, nofun⟩

/-- `RST` gives the latch and the response values that fit, so the invariant then rests on memory, which `RST` keeps. -/
theorem invariant_pulseReset_iff (s : State) : Invariant s.pulseReset ↔ s.mem.wf = true := by
  rw [invariant_iff]
  exact ⟨fun ⟨hmem, _, _⟩ => hmem, fun hmem => ⟨hmem, latchFits_clear, responseFits_idle⟩⟩

/-- The machine after reset is one that `RST` no longer changes. -/
theorem reset_pulseReset : State.reset.pulseReset = State.reset := rfl

/-- Settles O40: a state after `RST` with the attached buffers in canonical form. -/
theorem invariantHoldsAtReset : Obligations.InvariantHoldsAtReset := by
  have h : Invariant State.reset.pulseReset := (invariant_pulseReset_iff _).mpr resetMemory_wf
  rwa [reset_pulseReset] at h

end Sys2Proof.Proofs
